-- ==== Sys2Proof/Word.lean ====
section
/-! DEFINITION. The byte, the 32-bit word of an image, and the byte string of the spec (00_scope.md R13, R14). -/

namespace Sys2Proof

/-- A `u8`: the unit of all three byte spaces (10_state.md R39). -/
abbrev Byte := BitVec 8

/-- A `u32`: the identifier word of an image, or one word of a raw filter pair. -/
abbrev Word := BitVec 32

/-- A byte string (00_scope.md R14). -/
abbrev Bytes := List Byte

end Sys2Proof
end

