-- ==== Sys2Proof/Syntax.lean ====
section
/-! DEFINITION. The values the block's operations take and give, the requests the environment issues, and the
instruction type: one constructor for each of the 54 rows of spec/opcode_table.json. -/

namespace Sys2Proof

/-! ### Values (10_state.md R31 to R34) -/

/-- Byte order of the 32-bit words of an image (20_memory.md R61). -/
inductive WordOrder where
  | little
  | big
deriving DecidableEq, Repr

/-- Target address type of a peer (10_state.md R31). -/
inductive TaType where
  | physical
  | functional
deriving DecidableEq, Repr

/-- The address information of a peer (10_state.md R31). `sa` and `ta` are labels that are only compared. -/
structure PeerAddr where
  sa : Byte
  ta : Byte
  taType : TaType
  ext : Option Byte
deriving DecidableEq, Repr

/-- One row of ADDR_MAP (10_state.md R30). -/
structure Channel where
  peer : PeerAddr
  rxId : BitVec 29
  rxExtended : Bool
  txId : BitVec 29
  txExtended : Bool
deriving DecidableEq, Repr

/-- A decoded frame (10_state.md R32): `payload` is the eight storage bytes, of which the first `length` are meaningful. -/
structure CanFrame where
  id : BitVec 29
  extended : Bool
  remoteRequest : Bool
  error : Bool
  length : Nat
  payload : Bytes
deriving DecidableEq, Repr

/-- Which frame formats a filter accepts (10_state.md R33). -/
inductive Exclusivity where
  | standard
  | extended
  | both
deriving DecidableEq, Repr

/-- An acceptance filter as the consumer gives it (10_state.md R33). -/
structure Filter where
  id : Word
  mask : Word
  exclusivity : Exclusivity
  invert : Bool
deriving DecidableEq, Repr

/-- A raw filter pair (30_encoding.md R92): what CFG.FILTERS holds. -/
structure RawFilter where
  id : Word
  mask : Word
deriving DecidableEq, Repr

/-- The error classes of ERR_TABLE (42_error_decoder.md R172). -/
inductive ErrorClass where
  | timeout
  | lostArbitration
  | controllerError
  | protocolViolation
  | transceiverStatus
  | noAck
  | busOff
  | busError
  | restarted
deriving DecidableEq, Repr

/-- Controller status flags (42_error_decoder.md R172). -/
inductive ControllerStatus where
  | rxOverflow
  | txOverflow
  | rxWarning
  | txWarning
  | rxPassive
  | txPassive
  | active
deriving DecidableEq, Repr

/-- Protocol violation types (42_error_decoder.md R172). -/
inductive ProtocolStatusType where
  | singleBit
  | format
  | stuff
  | bit0
  | bit1
  | overload
  | activeAnnouncement
  | txError
deriving DecidableEq, Repr

/-- Protocol violation locations, with the sentinel for a byte that names none (42_error_decoder.md R172, R178). -/
inductive ProtocolLocation where
  | unspecified
  | id28to21
  | sof
  | srtr
  | ide
  | id20to18
  | id17to13
  | crcSeq
  | res0
  | data
  | dlc
  | rtr
  | res1
  | id04to00
  | id12to05
  | interm
  | crcDel
  | ack
  | eof
  | ackDel
  | unknown
deriving DecidableEq, Repr

/-- Transceiver states, with the sentinel for a byte that names none (42_error_decoder.md R172, R178). -/
inductive TransceiverStatus where
  | unspecified
  | canhNoWire
  | canhShortToBat
  | canhShortToVcc
  | canhShortToGnd
  | canlNoWire
  | canlShortToBat
  | canlShortToVcc
  | canlShortToGnd
  | canlShortToCanh
  | unknown
deriving DecidableEq, Repr

/-- A decoded error frame (10_state.md R34). A set is a list without repeats, in the order of the table it comes from. -/
structure ErrorReport where
  classes : List ErrorClass
  arbitrationPosition : Option Byte
  controllerFlags : List ControllerStatus
  protocolType : List ProtocolStatusType
  protocolLocation : Option ProtocolLocation
  transceiverStatus : Option TransceiverStatus
deriving DecidableEq, Repr

/-! ### Answers of the environment (00_scope.md R18) -/

/-- The outcome of one `Tx` call (43_port.md R208). -/
inductive TxOutcome where
  | done
  | fail
  | timeout
deriving DecidableEq, Repr

/-- The environment's answer to name resolution and the bind call (43_port.md R192). -/
inductive BindRes where
  | ok
  | notFound
  | sysFail (errno : Nat)
deriving DecidableEq, Repr

/-- What comes with every inbound unit: the time, the outcomes of the `Tx` calls, and the `errno` the environment
supplies should the port be unbound (43_port.md R205, R190). -/
structure RxArgs where
  now : BitVec 64
  txo : List TxOutcome
  errno : Nat
deriving DecidableEq, Repr

/-! ### Operand shapes of the rows -/

/-- An access to one configuration register: the operands of CFG_READ and CFG_WRITE other than the register
(43_port.md R197, R198). -/
inductive RegAccess where
  | read (sysOk : Bool) (errno : Nat)
  | write (value : Nat) (sysOk : Bool) (errno : Nat)
deriving DecidableEq, Repr

/-- An image less the three flag bits that select its row (20_memory.md R60): word bits 28:0 as they stand, the
length byte, the three reserved bytes, the payload storage. -/
structure ImgBody where
  word : BitVec 29
  len : Byte
  rsv5 : Byte
  rsv6 : Byte
  rsv7 : Byte
  payload : Bytes
deriving DecidableEq, Repr

/-! ### Requests -/

/-- The six formats (30_encoding.md R85, R122): which group of the opcode table a request's bits belong to. -/
inductive Format where
  | op
  | reg
  | img
  | errfrm
  | npdu
  | fltent
deriving DecidableEq, Repr

/-- The arguments to which the spec gives no bit encoding (30_encoding.md R116, column "arguments"). A request fills
in those its row takes. -/
structure Args where
  id : Word := 0
  extended : Bool := false
  remoteRequest : Bool := false
  payload : Bytes := []
  bytes : Bytes := []
  filters : List Filter := []
  frame : CanFrame := ⟨0, false, false, false, 0, [0, 0, 0, 0, 0, 0, 0, 0]⟩
  name : Bytes := []
  res : BindRes := .ok
  reg : BitVec 4 := 0
  write : Bool := false
  value : Nat := 0
  sysOk : Bool := false
  errno : Nat := 0
  peer : PeerAddr := ⟨0, 0, .physical, none⟩
  channel : Nat := 0
  now : BitVec 64 := 0
  txo : List TxOutcome := []
deriving DecidableEq, Repr

/-- One operation the environment issues: the format of its bits, the bits as bytes, the remaining arguments
(log entry 6). -/
structure Request where
  fmt : Format
  code : Bytes
  args : Args
deriving DecidableEq, Repr

/-! ### Instructions -/

/-- One constructor for each row of spec/opcode_table.json. A row of the groups IMG, ERRFRM and NPDU is an inbound unit
of that kind (log entries 9, 10), a row of REG an access to that register (log entry 8), a row of FLTENT a raw pair
read back (log entry 11). -/
inductive Instr where
  -- group OP (30_encoding.md R116)
  | encode (id : Word) (extended remoteRequest : Bool) (payload : Bytes)
  | decode (bytes : Bytes)
  | filterApply (filters : List Filter) (sysOk : Bool) (errno : Nat)
  | filterRead (sysOk : Bool) (errno : Nat)
  | errDecode (frame : CanFrame)
  | bind (name : Bytes) (res : BindRes)
  | close
  | cfgWrite (reg : BitVec 4) (value : Nat) (sysOk : Bool) (errno : Nat)
  | cfgRead (reg : BitVec 4) (sysOk : Bool) (errno : Nat)
  | rxRaw (bytes : Bytes) (rx : RxArgs)
  | send (payload : Bytes) (peer : PeerAddr) (rx : RxArgs)
  | tick (now : BitVec 64) (txo : List TxOutcome)
  | opReserved12to15 (low : BitVec 2)
  -- group REG (30_encoding.md R117)
  | regRxCapacity (acc : RegAccess)
  | regNBs (acc : RegAccess)
  | regNCr (acc : RegAccess)
  | regWftMax (acc : RegAccess)
  | regLocalStmin (acc : RegAccess)
  | regPadEn (acc : RegAccess)
  | regPadByte (acc : RegAccess)
  | regErrMask (acc : RegAccess)
  | regLoopback (acc : RegAccess)
  | regRecvOwn (acc : RegAccess)
  | regReserved10to11 (low : BitVec 1)
  | regReserved12to15 (low : BitVec 2)
  -- group IMG (30_encoding.md R89)
  | frameStdData (img : ImgBody) (rx : RxArgs)
  | frameExtData (img : ImgBody) (rx : RxArgs)
  | frameStdRemote (img : ImgBody) (rx : RxArgs)
  | frameExtRemote (img : ImgBody) (rx : RxArgs)
  | frameError (eff rtr : Bool) (img : ImgBody) (rx : RxArgs)
  -- group ERRFRM (42_error_decoder.md R172)
  | errClassTimeout (eff rtr : Bool) (img : ImgBody) (rx : RxArgs)
  | errClassLostArbitration (eff rtr : Bool) (img : ImgBody) (rx : RxArgs)
  | errClassControllerError (eff rtr : Bool) (img : ImgBody) (rx : RxArgs)
  | errClassProtocolViolation (eff rtr : Bool) (img : ImgBody) (rx : RxArgs)
  | errClassTransceiverStatus (eff rtr : Bool) (img : ImgBody) (rx : RxArgs)
  | errClassNoAck (eff rtr : Bool) (img : ImgBody) (rx : RxArgs)
  | errClassBusOff (eff rtr : Bool) (img : ImgBody) (rx : RxArgs)
  | errClassBusError (eff rtr : Bool) (img : ImgBody) (rx : RxArgs)
  | errClassRestarted (eff rtr : Bool) (img : ImgBody) (rx : RxArgs)
  -- group NPDU (30_encoding.md R96): the channel, the free bits of the PCI, the bytes after it
  | npduSf (c : Nat) (dl : BitVec 4) (rest : Bytes) (rx : RxArgs)
  | npduFf32 (c : Nat) (rest : Bytes) (rx : RxArgs)
  | npduFf12 (c : Nat) (len : BitVec 12) (rest : Bytes) (rx : RxArgs)
  | npduCf (c : Nat) (sn : BitVec 4) (rest : Bytes) (rx : RxArgs)
  | npduFcCts (c : Nat) (rest : Bytes) (rx : RxArgs)
  | npduFcWait (c : Nat) (rest : Bytes) (rx : RxArgs)
  | npduFcOverflow (c : Nat) (rest : Bytes) (rx : RxArgs)
  | npduFcReserved3 (c : Nat) (rest : Bytes) (rx : RxArgs)
  | npduFcReserved4to7 (c : Nat) (low : BitVec 2) (rest : Bytes) (rx : RxArgs)
  | npduFcReserved8toF (c : Nat) (low : BitVec 3) (rest : Bytes) (rx : RxArgs)
  | npduUnknown4to7 (c : Nat) (low : BitVec 6) (rest : Bytes) (rx : RxArgs)
  | npduUnknown8toF (c : Nat) (low : BitVec 7) (rest : Bytes) (rx : RxArgs)
  -- group FLTENT (30_encoding.md R92, R93)
  | fltIdExtended (pair : RawFilter)
  | fltIdInvert (pair : RawFilter)
  | fltMaskTyped (pair : RawFilter)
deriving DecidableEq, Repr

end Sys2Proof
end

