-- ==== Sys2Proof/Config.lean ====
section
/-! DEFINITION. What is fixed for the life of a block: the model arguments of 00_scope.md R9 to R11, and the free values
the spec leaves open. The values of the test configuration T0 are in Machine/Tables.lean. -/

namespace Sys2Proof

/-- ERR_TABLE (42_error_decoder.md R172): the numbers of the error decoder. An offset is an index into the eight
storage bytes, so a detail byte can always be read (R175). -/
structure ErrTable where
  cls : List (ErrorClass × BitVec 29)
  offArbitration : Fin 8
  offController : Fin 8
  offProtocolType : Fin 8
  offProtocolLocation : Fin 8
  offTransceiver : Fin 8
  controller : List (ControllerStatus × Byte)
  protocolType : List (ProtocolStatusType × Byte)
  protocolLocation : List (ProtocolLocation × Byte)
  transceiver : List (TransceiverStatus × Byte)
deriving DecidableEq, Repr

/-- The model arguments (00_scope.md R10, R11). `N_CH` is the length of `addrMap`. No operation writes them: they
stand in the state so that a statement about every state speaks of every choice of them (log entry 1). -/
structure Params where
  wordOrder : WordOrder
  addrMap : List Channel
  pRxCapacity : BitVec 32
  pNBs : BitVec 64
  pNCr : BitVec 64
  pWftMax : BitVec 8
  pLocalStmin : Byte
  pPadEn : Bool
  pPadByte : Byte
  errTable : ErrTable
deriving DecidableEq, Repr

/-! Constants the source fixes (00_scope.md R9). -/

/-- FRAME_SIZE, in bytes. -/
def frameSize : Nat := 16

/-- MAX_DATA: the largest frame length, and the number of payload storage bytes. -/
def maxData : Nat := 8

/-- MAX_FILTERS: the hard cap of the filter list. -/
def maxFilters : Nat := 512

/-- MAX_TOTAL_LENGTH: the largest first-frame total length. -/
def maxTotalLength : Nat := 4294967295

/-- IFNAME_MAX: the longest interface name. -/
def ifnameMax : Nat := 15

/-! Free values: what a pass-through register reads as before its first write (10_state.md R42). -/

/-- CFG.ERR_MASK before its first write. -/
opaque Config.freeErrMask : Word

/-- CFG.LOOPBACK before its first write. -/
opaque Config.freeLoopback : Bool

/-- CFG.RECV_OWN before its first write. -/
opaque Config.freeRecvOwn : Bool

/-- CFG.FILTERS before the first FILTER_APPLY; read through its first 512 entries (10_state.md R23). -/
opaque Config.freeFilters : List RawFilter

end Sys2Proof
end

