-- ==== Sys2Proof/Machine/Bytes.lean ====
section
/-! DEFINITION. Bytes, words and byte strings: byte order (00_scope.md R14, 20_memory.md R61, R63), nibbles, fills. -/

namespace Sys2Proof.Machine

/-- LE32 (00_scope.md R14). -/
def le32 (w : Word) : Bytes :=
  [w.extractLsb' 0 8, w.extractLsb' 8 8, w.extractLsb' 16 8, w.extractLsb' 24 8]

/-- BE32 (00_scope.md R14). -/
def be32 (w : Word) : Bytes :=
  [w.extractLsb' 24 8, w.extractLsb' 16 8, w.extractLsb' 8 8, w.extractLsb' 0 8]

/-- W32: the four bytes of a word of an image, in the block's byte order (00_scope.md R14, 20_memory.md R61). -/
def w32 (wo : WordOrder) (w : Word) : Bytes :=
  match wo with
  | .little => le32 w
  | .big => be32 w

/-- A word from its bytes, most significant first. -/
def wordOf (b3 b2 b1 b0 : Byte) : Word := b3 ++ b2 ++ b1 ++ b0

/-- unW32: the inverse of `w32` on four bytes (00_scope.md R14). A caller gives it exactly four. -/
def unW32 (wo : WordOrder) (b : Bytes) : Word :=
  match b with
  | [b0, b1, b2, b3] =>
    match wo with
    | .little => wordOf b3 b2 b1 b0
    | .big => wordOf b0 b1 b2 b3
  | _ => 0

/-- zeros(n) (00_scope.md R14). -/
def zeros (n : Nat) : Bytes := List.replicate n 0

/-- fill(n, v) (00_scope.md R14). -/
def fill (n : Nat) (v : Byte) : Bytes := List.replicate n v

/-- Bits 7:4 of a byte. -/
def hiNibble (b : Byte) : BitVec 4 := b.extractLsb' 4 4

/-- Bits 3:0 of a byte. -/
def loNibble (b : Byte) : BitVec 4 := b.extractLsb' 0 4

/-- A byte from its nibbles: a first PCI byte (30_encoding.md R96). -/
def pciByte (hi lo : BitVec 4) : Byte := hi ++ lo

/-- Byte `i` of a byte string; a caller stays inside the string (00_scope.md R14). -/
def byteAt (b : Bytes) (i : Nat) : Byte := b.getD i 0

end Sys2Proof.Machine
end

