-- ==== Sys2Proof/Machine/Flags.lean ====
section
/-! DEFINITION. The flag bits. The block has no stored status flags (10_state.md R37); its flags are the three bits
above the identifier in an image's word and the bits of the same places in a raw filter pair (30_encoding.md R86 to
R93). -/

namespace Sys2Proof.Machine

/-- EFF_FLAG, bit 31 (30_encoding.md R86). -/
def effFlag : Word := 0x80000000

/-- RTR_FLAG, bit 30 (30_encoding.md R86). -/
def rtrFlag : Word := 0x40000000

/-- ERR_FLAG, bit 29 (30_encoding.md R86). -/
def errFlag : Word := 0x20000000

/-- INV_FLAG, bit 29 of a raw filter id (30_encoding.md R93). -/
def invFlag : Word := 0x20000000

/-- SFF_MASK: the 11 identifier bits of a standard frame (30_encoding.md R86). -/
def sffMask : Word := 0x000007FF

/-- EFF_MASK: the 29 identifier bits of an extended frame (30_encoding.md R86). -/
def effMask : Word := 0x1FFFFFFF

/-- MaskId (30_encoding.md R87). -/
def maskId (v : Word) (extended : Bool) : Word :=
  if extended then v &&& effMask else v &&& sffMask

/-- A flag's bit, when it is set. -/
def flagIf (b : Bool) (flag : Word) : Word := if b then flag else 0

/-- The identifier bits of a frame: masked by its extended flag, and to 29 bits for an error frame whatever that flag
says (30_encoding.md R87, 40_frame_codec.md R150; log entry 26). -/
def packId (f : CanFrame) : Word :=
  if f.error then f.id.setWidth 32 &&& effMask else maskId (f.id.setWidth 32) f.extended

/-- PackWord: the identifier word of a frame (30_encoding.md R88). -/
def packWord (f : CanFrame) : Word :=
  packId f ||| flagIf f.extended effFlag ||| flagIf f.remoteRequest rtrFlag |||
    flagIf f.error errFlag

/-- The identifier UnpackWord reads: 29 bits for an error frame whatever its EFF bit, else masked by EFF
(30_encoding.md R88). -/
def unpackId (w : Word) : BitVec 29 :=
  (if w.getLsbD 29 then w &&& effMask else maskId w (w.getLsbD 31)).setWidth 29

/-- UnpackWord, with the length and the payload of the image around it (30_encoding.md R88, 40_frame_codec.md R149). -/
def unpackWord (w : Word) (length : Nat) (payload : Bytes) : CanFrame where
  id := unpackId w
  extended := w.getLsbD 31
  remoteRequest := w.getLsbD 30
  error := w.getLsbD 29
  length := length
  payload := payload

/-- Equality as frames: all but the storage bytes beyond `length` (10_state.md R32). -/
def sameFrame (f g : CanFrame) : Bool :=
  decide (f.id = g.id) && (f.extended == g.extended) && (f.remoteRequest == g.remoteRequest) && (f.error == g.error) &&
    decide (f.length = g.length) && decide (f.payload.take f.length = g.payload.take g.length)

/-! ### Filters (41_filter_set.md) -/

/-- FilterEncode (41_filter_set.md R156). -/
def filterEncode (f : Filter) : RawFilter where
  id := f.id ||| flagIf (decide (f.exclusivity = .extended)) effFlag ||| flagIf f.invert invFlag
  mask := f.mask ||| flagIf (decide (f.exclusivity ≠ .both)) (effFlag ||| rtrFlag)

/-- FilterDecode (41_filter_set.md R161). -/
def filterDecode (p : RawFilter) : Filter :=
  let invert := decide (p.id &&& invFlag ≠ 0)
  if p.mask &&& (effFlag ||| rtrFlag) = effFlag ||| rtrFlag then
    { id := p.id &&& ~~~invFlag &&& ~~~effFlag
      mask := p.mask &&& ~~~(effFlag ||| rtrFlag)
      exclusivity := if p.id &&& effFlag ≠ 0 then .extended else .standard
      invert := invert }
  else
    { id := p.id &&& ~~~invFlag, mask := p.mask, exclusivity := .both, invert := invert }

end Sys2Proof.Machine
end

