-- ==== Sys2Proof/WellFormed.lean ====
section
/-! DEFINITION. Well-formed instructions: the fields of a row hold what the row's pattern leaves free, and no more, so
that every well-formed instruction has one encoding and is the decoding of it (30_encoding.md R122). -/

namespace Sys2Proof

/-- A frame value (10_state.md R32): length 0 to 8, exactly 8 storage bytes, the identifier masked by its flags. -/
def CanFrame.wellFormed (f : CanFrame) : Bool :=
  decide (f.length ≤ maxData) && decide (f.payload.length = maxData) &&
    (f.extended || f.error || decide (f.id.toNat < 2 ^ 11))

/-- An image has exactly eight payload storage bytes (20_memory.md R60). -/
def ImgBody.wellFormed (b : ImgBody) : Bool :=
  decide (b.payload.length = maxData)

/-- Bit `k` of the identifier bits is set and every class bit below it is clear: the error class rows are not
exclusive, and a frame is taken under the first of them in the table's order (log entry 9). -/
def ImgBody.firstClassBit (b : ImgBody) (k : Nat) : Bool :=
  b.word.getLsbD k && (List.range k).all fun j => !b.word.getLsbD j

/-- The bytes after the PCI fit a frame beside it: `pci` PCI bytes and at most eight in all (30_encoding.md R95). -/
def restFits (pci : Nat) (rest : Bytes) : Bool :=
  decide (pci + rest.length ≤ maxData)

/-- The checks of every row. An operation of group OP is well-formed on every operand of its type but for ERR_DECODE,
whose operand is a frame value. -/
def Instr.wellFormed : Instr → Bool
  | .encode _ _ _ _ => true
  | .decode _ => true
  | .filterApply _ _ _ => true
  | .filterRead _ _ => true
  | .errDecode f => f.wellFormed
  | .bind _ _ => true
  | .close => true
  | .cfgWrite _ _ _ _ => true
  | .cfgRead _ _ _ => true
  | .rxRaw _ _ => true
  | .send _ _ _ => true
  | .tick _ _ => true
  | .opReserved12to15 _ => true
  | .regRxCapacity _ => true
  | .regNBs _ => true
  | .regNCr _ => true
  | .regWftMax _ => true
  | .regLocalStmin _ => true
  | .regPadEn _ => true
  | .regPadByte _ => true
  | .regErrMask _ => true
  | .regLoopback _ => true
  | .regRecvOwn _ => true
  | .regReserved10to11 _ => true
  | .regReserved12to15 _ => true
  | .frameStdData b _ => b.wellFormed
  | .frameExtData b _ => b.wellFormed
  | .frameStdRemote b _ => b.wellFormed
  | .frameExtRemote b _ => b.wellFormed
  | .frameError _ _ b _ => b.wellFormed
  | .errClassTimeout _ _ b _ => b.wellFormed && b.firstClassBit 0
  | .errClassLostArbitration _ _ b _ => b.wellFormed && b.firstClassBit 1
  | .errClassControllerError _ _ b _ => b.wellFormed && b.firstClassBit 2
  | .errClassProtocolViolation _ _ b _ => b.wellFormed && b.firstClassBit 3
  | .errClassTransceiverStatus _ _ b _ => b.wellFormed && b.firstClassBit 4
  | .errClassNoAck _ _ b _ => b.wellFormed && b.firstClassBit 5
  | .errClassBusOff _ _ b _ => b.wellFormed && b.firstClassBit 6
  | .errClassBusError _ _ b _ => b.wellFormed && b.firstClassBit 7
  | .errClassRestarted _ _ b _ => b.wellFormed && b.firstClassBit 8
  | .npduSf _ _ rest _ => restFits 1 rest
  | .npduFf32 _ rest _ => restFits 2 rest
  | .npduFf12 _ len rest _ => restFits 2 rest && decide (len ≠ 0)
  | .npduCf _ _ rest _ => restFits 1 rest
  | .npduFcCts _ rest _ => restFits 1 rest
  | .npduFcWait _ rest _ => restFits 1 rest
  | .npduFcOverflow _ rest _ => restFits 1 rest
  | .npduFcReserved3 _ rest _ => restFits 1 rest
  | .npduFcReserved4to7 _ _ rest _ => restFits 1 rest
  | .npduFcReserved8toF _ _ rest _ => restFits 1 rest
  | .npduUnknown4to7 _ _ rest _ => restFits 1 rest
  | .npduUnknown8toF _ _ rest _ => restFits 1 rest
  | .fltIdExtended p => p.id.getLsbD 31
  | .fltIdInvert p => !p.id.getLsbD 31 && p.id.getLsbD 29
  | .fltMaskTyped p => !p.id.getLsbD 31 && !p.id.getLsbD 29 && p.mask.getLsbD 31 && p.mask.getLsbD 30

end Sys2Proof
end

