-- ==== Sys2Proof/Decode.lean ====
section
/-! DEFINITION. The decoder, total on every request, and the encoder after it. The bits of a request are the spec's own
encodings: the selectors (30_encoding.md R116, R117), a frame image (20_memory.md R60, 30_encoding.md R86), a transport
frame from its first PCI byte on (30_encoding.md R96), a raw filter pair (20_memory.md R71). -/

namespace Sys2Proof

open Sys2Proof.Machine

/-- Why a request is no encoding of any row. The block has nothing to do with such a request (30_encoding.md R122). -/
inductive DecodeError where
  /-- A selector is one byte whose bits 7:4 are zero. -/
  | badSelector
  /-- An image is 16 bytes (20_memory.md R60). -/
  | badImage
  /-- A row of group ERRFRM has the error flag and at least one class bit set (42_error_decoder.md R172). -/
  | noErrorClass
  /-- A transport frame has 1 to 8 bytes, and a FirstFrame's row is told by its first two (30_encoding.md R96). -/
  | badNpdu
  /-- A raw filter pair is 8 bytes (20_memory.md R71). -/
  | badPair
  /-- The pair has none of the bits that select a row of group FLTENT (30_encoding.md R122). -/
  | noFilterRow
deriving DecidableEq, Repr

/-- A decoded instruction, or the name of what is wrong. -/
inductive Decoded where
  | ok (i : Instr)
  | rejected (why : DecodeError)
deriving DecidableEq, Repr

/-- The instruction, if there is one. -/
def Decoded.toOption : Decoded → Option Instr
  | .ok i => some i
  | .rejected _ => none

/-! ### Decoding -/

/-- The 4-bit selector of a request of group OP or REG: bits 3:0 of its one byte. -/
def selectorOf (code : Bytes) : Option (BitVec 4) :=
  match code with
  | [b] => if hiNibble b = 0 then some (loNibble b) else none
  | _ => none

/-- What an inbound unit's request carries beside its bits. -/
def rxArgsOf (a : Args) : RxArgs := ⟨a.now, a.txo, a.errno⟩

/-- Group OP (30_encoding.md R116). -/
def decodeOp (sel : BitVec 4) (a : Args) : Instr :=
  match sel.toNat with
  | 0 => .encode a.id a.extended a.remoteRequest a.payload
  | 1 => .decode a.bytes
  | 2 => .filterApply a.filters a.sysOk a.errno
  | 3 => .filterRead a.sysOk a.errno
  | 4 => .errDecode a.frame
  | 5 => .bind a.name a.res
  | 6 => .close
  | 7 => .cfgWrite a.reg a.value a.sysOk a.errno
  | 8 => .cfgRead a.reg a.sysOk a.errno
  | 9 => .rxRaw a.bytes (rxArgsOf a)
  | 10 => .send a.payload a.peer (rxArgsOf a)
  | 11 => .tick a.now a.txo
  | _ => .opReserved12to15 (sel.extractLsb' 0 2)

/-- The access of a request of group REG. -/
def accessOf (a : Args) : RegAccess :=
  if a.write then .write a.value a.sysOk a.errno else .read a.sysOk a.errno

/-- Group REG (30_encoding.md R117). -/
def decodeReg (sel : BitVec 4) (a : Args) : Instr :=
  match sel.toNat with
  | 0 => .regRxCapacity (accessOf a)
  | 1 => .regNBs (accessOf a)
  | 2 => .regNCr (accessOf a)
  | 3 => .regWftMax (accessOf a)
  | 4 => .regLocalStmin (accessOf a)
  | 5 => .regPadEn (accessOf a)
  | 6 => .regPadByte (accessOf a)
  | 7 => .regErrMask (accessOf a)
  | 8 => .regLoopback (accessOf a)
  | 9 => .regRecvOwn (accessOf a)
  | 10 => .regReserved10to11 0
  | 11 => .regReserved10to11 1
  | _ => .regReserved12to15 (sel.extractLsb' 0 2)

/-- An image taken apart: the identifier word and the rest (20_memory.md R60, R61). -/
def imageParts (wo : WordOrder) (code : Bytes) : Option (Word × ImgBody) :=
  match code with
  | b0 :: b1 :: b2 :: b3 :: len :: r5 :: r6 :: r7 :: payload =>
    if payload.length = maxData then
      let w := unW32 wo [b0, b1, b2, b3]
      some (w, ⟨w.extractLsb' 0 29, len, r5, r6, r7, payload⟩)
    else none
  | _ => none

/-- Group IMG: the frame kinds the flag bits select (30_encoding.md R89). -/
def decodeImg (w : Word) (b : ImgBody) (rx : RxArgs) : Instr :=
  if w.getLsbD 29 then .frameError (w.getLsbD 31) (w.getLsbD 30) b rx
  else
    match w.getLsbD 31, w.getLsbD 30 with
    | false, false => .frameStdData b rx
    | true, false => .frameExtData b rx
    | false, true => .frameStdRemote b rx
    | true, true => .frameExtRemote b rx

/-- Group ERRFRM: the first row in the table's order whose class bit is set (42_error_decoder.md R172). -/
def decodeErrFrm (w : Word) (b : ImgBody) (rx : RxArgs) : Decoded :=
  let e := w.getLsbD 31
  let r := w.getLsbD 30
  if !w.getLsbD 29 then .rejected .noErrorClass
  else if w.getLsbD 0 then .ok (.errClassTimeout e r b rx)
  else if w.getLsbD 1 then .ok (.errClassLostArbitration e r b rx)
  else if w.getLsbD 2 then .ok (.errClassControllerError e r b rx)
  else if w.getLsbD 3 then .ok (.errClassProtocolViolation e r b rx)
  else if w.getLsbD 4 then .ok (.errClassTransceiverStatus e r b rx)
  else if w.getLsbD 5 then .ok (.errClassNoAck e r b rx)
  else if w.getLsbD 6 then .ok (.errClassBusOff e r b rx)
  else if w.getLsbD 7 then .ok (.errClassBusError e r b rx)
  else if w.getLsbD 8 then .ok (.errClassRestarted e r b rx)
  else .rejected .noErrorClass

/-- The rows of a FlowControl frame, by its flow status (30_encoding.md R108). -/
def decodeFlowControl (c : Nat) (fs : BitVec 4) (rest : Bytes) (rx : RxArgs) : Instr :=
  match fs.toNat with
  | 0 => .npduFcCts c rest rx
  | 1 => .npduFcWait c rest rx
  | 2 => .npduFcOverflow c rest rx
  | 3 => .npduFcReserved3 c rest rx
  | _ =>
    if fs.getLsbD 3 then .npduFcReserved8toF c (fs.extractLsb' 0 3) rest rx
    else .npduFcReserved4to7 c (fs.extractLsb' 0 2) rest rx

/-- Group NPDU: the rows by the first PCI byte, and by the second for a FirstFrame (30_encoding.md R96, R102). -/
def decodeNpdu (c : Nat) (code : Bytes) (rx : RxArgs) : Decoded :=
  if maxData < code.length then .rejected .badNpdu
  else
    match code with
    | [] => .rejected .badNpdu
    | b :: rest =>
      match (hiNibble b).toNat with
      | 0 => .ok (.npduSf c (loNibble b) rest rx)
      | 1 =>
        match rest with
        | [] => .rejected .badNpdu
        | b1 :: rest1 =>
          if loNibble b ++ b1 = 0 then .ok (.npduFf32 c rest1 rx) else .ok (.npduFf12 c (loNibble b ++ b1) rest1 rx)
      | 2 => .ok (.npduCf c (loNibble b) rest rx)
      | 3 => .ok (decodeFlowControl c (loNibble b) rest rx)
      | _ =>
        if b.getLsbD 7 then .ok (.npduUnknown8toF c (b.extractLsb' 0 7) rest rx)
        else .ok (.npduUnknown4to7 c (b.extractLsb' 0 6) rest rx)

/-- Group FLTENT: the first row in the table's order whose bits are set (30_encoding.md R92, R93, R122). -/
def decodeFltEnt (wo : WordOrder) (code : Bytes) : Decoded :=
  if code.length ≠ 8 then .rejected .badPair
  else
    let p : RawFilter := ⟨unW32 wo (code.take 4), unW32 wo (code.drop 4)⟩
    if p.id.getLsbD 31 then .ok (.fltIdExtended p)
    else if p.id.getLsbD 29 then .ok (.fltIdInvert p)
    else if p.mask.getLsbD 31 && p.mask.getLsbD 30 then .ok (.fltMaskTyped p)
    else .rejected .noFilterRow

/-- The decoder: total, and it refuses by name. -/
def decode (wo : WordOrder) (r : Request) : Decoded :=
  match r.fmt with
  | .op =>
    match selectorOf r.code with
    | some sel => .ok (decodeOp sel r.args)
    | none => .rejected .badSelector
  | .reg =>
    match selectorOf r.code with
    | some sel => .ok (decodeReg sel r.args)
    | none => .rejected .badSelector
  | .img =>
    match imageParts wo r.code with
    | some (w, b) => .ok (decodeImg w b (rxArgsOf r.args))
    | none => .rejected .badImage
  | .errfrm =>
    match imageParts wo r.code with
    | some (w, b) => decodeErrFrm w b (rxArgsOf r.args)
    | none => .rejected .badImage
  | .npdu => decodeNpdu r.args.channel r.code (rxArgsOf r.args)
  | .fltent => decodeFltEnt wo r.code

/-! ### Encoding -/

/-- The identifier word from its flag bits and bits 28:0 (30_encoding.md R86). -/
def wordWithFlags (eff rtr err : Bool) (lo : BitVec 29) : Word :=
  BitVec.ofBool eff ++ BitVec.ofBool rtr ++ BitVec.ofBool err ++ lo

/-- The 16 bytes of an image (20_memory.md R60). -/
def imageBytes (wo : WordOrder) (eff rtr err : Bool) (b : ImgBody) : Bytes :=
  w32 wo (wordWithFlags eff rtr err b.word) ++ [b.len, b.rsv5, b.rsv6, b.rsv7] ++ b.payload

/-- A request of group OP. -/
def opRequest (sel : BitVec 4) (a : Args) : Request := ⟨.op, [pciByte 0 sel], a⟩

/-- A request of group REG. -/
def regRequest (sel : BitVec 4) (acc : RegAccess) : Request :=
  match acc with
  | .read sysOk errno => ⟨.reg, [pciByte 0 sel], { write := false, sysOk, errno }⟩
  | .write value sysOk errno => ⟨.reg, [pciByte 0 sel], { write := true, value, sysOk, errno }⟩

/-- A request of group IMG. -/
def imgRequest (wo : WordOrder) (eff rtr err : Bool) (b : ImgBody) (rx : RxArgs) : Request :=
  ⟨.img, imageBytes wo eff rtr err b, { now := rx.now, txo := rx.txo, errno := rx.errno }⟩

/-- A request of group ERRFRM. -/
def errRequest (wo : WordOrder) (eff rtr : Bool) (b : ImgBody) (rx : RxArgs) : Request :=
  ⟨.errfrm, imageBytes wo eff rtr true b, { now := rx.now, txo := rx.txo, errno := rx.errno }⟩

/-- A request of group NPDU. -/
def npduRequest (c : Nat) (code : Bytes) (rx : RxArgs) : Request :=
  ⟨.npdu, code, { channel := c, now := rx.now, txo := rx.txo, errno := rx.errno }⟩

/-- A request of group FLTENT (20_memory.md R71). -/
def fltRequest (wo : WordOrder) (p : RawFilter) : Request := ⟨.fltent, w32 wo p.id ++ w32 wo p.mask, {}⟩

/-- The encoder: the request that a well-formed instruction is the decoding of. -/
def encode (wo : WordOrder) (i : Instr) : Request :=
  match i with
  | .encode id extended remoteRequest payload => opRequest 0 { id, extended, remoteRequest, payload }
  | .decode bytes => opRequest 1 { bytes }
  | .filterApply filters sysOk errno => opRequest 2 { filters, sysOk, errno }
  | .filterRead sysOk errno => opRequest 3 { sysOk, errno }
  | .errDecode frame => opRequest 4 { frame }
  | .bind name res => opRequest 5 { name, res }
  | .close => opRequest 6 {}
  | .cfgWrite reg value sysOk errno => opRequest 7 { reg, value, sysOk, errno }
  | .cfgRead reg sysOk errno => opRequest 8 { reg, sysOk, errno }
  | .rxRaw bytes rx => opRequest 9 { bytes, now := rx.now, txo := rx.txo, errno := rx.errno }
  | .send payload peer rx => opRequest 10 { payload, peer, now := rx.now, txo := rx.txo, errno := rx.errno }
  | .tick now txo => opRequest 11 { now, txo }
  | .opReserved12to15 low => opRequest (3#2 ++ low) {}
  | .regRxCapacity acc => regRequest 0 acc
  | .regNBs acc => regRequest 1 acc
  | .regNCr acc => regRequest 2 acc
  | .regWftMax acc => regRequest 3 acc
  | .regLocalStmin acc => regRequest 4 acc
  | .regPadEn acc => regRequest 5 acc
  | .regPadByte acc => regRequest 6 acc
  | .regErrMask acc => regRequest 7 acc
  | .regLoopback acc => regRequest 8 acc
  | .regRecvOwn acc => regRequest 9 acc
  | .regReserved10to11 low => ⟨.reg, [pciByte 0 (5#3 ++ low)], {}⟩
  | .regReserved12to15 low => ⟨.reg, [pciByte 0 (3#2 ++ low)], {}⟩
  | .frameStdData b rx => imgRequest wo false false false b rx
  | .frameExtData b rx => imgRequest wo true false false b rx
  | .frameStdRemote b rx => imgRequest wo false true false b rx
  | .frameExtRemote b rx => imgRequest wo true true false b rx
  | .frameError eff rtr b rx => imgRequest wo eff rtr true b rx
  | .errClassTimeout eff rtr b rx => errRequest wo eff rtr b rx
  | .errClassLostArbitration eff rtr b rx => errRequest wo eff rtr b rx
  | .errClassControllerError eff rtr b rx => errRequest wo eff rtr b rx
  | .errClassProtocolViolation eff rtr b rx => errRequest wo eff rtr b rx
  | .errClassTransceiverStatus eff rtr b rx => errRequest wo eff rtr b rx
  | .errClassNoAck eff rtr b rx => errRequest wo eff rtr b rx
  | .errClassBusOff eff rtr b rx => errRequest wo eff rtr b rx
  | .errClassBusError eff rtr b rx => errRequest wo eff rtr b rx
  | .errClassRestarted eff rtr b rx => errRequest wo eff rtr b rx
  | .npduSf c dl rest rx => npduRequest c (pciByte 0 dl :: rest) rx
  | .npduFf32 c rest rx => npduRequest c (0x10 :: 0x00 :: rest) rx
  | .npduFf12 c len rest rx => npduRequest c (pciByte 1 (len.extractLsb' 8 4) :: len.extractLsb' 0 8 :: rest) rx
  | .npduCf c sn rest rx => npduRequest c (pciByte 2 sn :: rest) rx
  | .npduFcCts c rest rx => npduRequest c (0x30 :: rest) rx
  | .npduFcWait c rest rx => npduRequest c (0x31 :: rest) rx
  | .npduFcOverflow c rest rx => npduRequest c (0x32 :: rest) rx
  | .npduFcReserved3 c rest rx => npduRequest c (0x33 :: rest) rx
  | .npduFcReserved4to7 c low rest rx => npduRequest c (pciByte 3 (1#2 ++ low) :: rest) rx
  | .npduFcReserved8toF c low rest rx => npduRequest c (pciByte 3 (1#1 ++ low) :: rest) rx
  | .npduUnknown4to7 c low rest rx => npduRequest c ((1#2 ++ low) :: rest) rx
  | .npduUnknown8toF c low rest rx => npduRequest c ((1#1 ++ low) :: rest) rx
  | .fltIdExtended p => fltRequest wo p
  | .fltIdInvert p => fltRequest wo p
  | .fltMaskTyped p => fltRequest wo p

/-! ### The words of the opcode table -/

/-- The request whose bits are the table's word `w`, every argument zero or empty. The table's word does not say its
group, and the groups share words: up to 8 bits a word below 16 is an operation selector and any other a first PCI byte,
16 bits are the first two PCI bytes, 32 bits an identifier word (log entry 7). -/
def requestOfWord (wo : WordOrder) (nbits w : Nat) : Request :=
  if nbits ≤ 8 then
    if w < 16 then ⟨.op, [BitVec.ofNat 8 w], {}⟩ else ⟨.npdu, BitVec.ofNat 8 w :: zeros 7, {}⟩
  else if nbits ≤ 16 then ⟨.npdu, BitVec.ofNat 8 (w / 256) :: BitVec.ofNat 8 w :: zeros 6, {}⟩
  else if nbits ≤ 32 then
    let word := BitVec.ofNat 32 w
    let fmt := if word.getLsbD 29 && decide (word.extractLsb' 0 9 ≠ 0) then Format.errfrm else Format.img
    ⟨fmt, w32 wo word ++ zeros 12, {}⟩
  else ⟨.op, [], {}⟩

/-- The instruction the decoder reads from a word of spec/opcode_table.json. -/
def decodeTableWord (nbits w : Nat) : Option Instr :=
  (decode .little (requestOfWord .little nbits w)).toOption

end Sys2Proof
end

