-- ==== Sys2Proof/Machine/Tables.lean ====
section
/-! DEFINITION. The test configuration T0 (00_scope.md R12, 95_test_vectors.md section 1): ERR_TABLE of
42_error_decoder.md R172, the three channels, the seven reset parameters. It is not a default of the hardware: the
model takes it as the parameters of `State.reset` (log entry 1). -/

namespace Sys2Proof.Machine

/-- ERR_TABLE.class (42_error_decoder.md R172). -/
def errClassTable : List (ErrorClass × BitVec 29) :=
  [(.timeout, 0x001), (.lostArbitration, 0x002), (.controllerError, 0x004), (.protocolViolation, 0x008),
   (.transceiverStatus, 0x010), (.noAck, 0x020), (.busOff, 0x040), (.busError, 0x080), (.restarted, 0x100)]

/-- ERR_TABLE.controller (42_error_decoder.md R172). -/
def controllerTable : List (ControllerStatus × Byte) :=
  [(.rxOverflow, 0x01), (.txOverflow, 0x02), (.rxWarning, 0x04), (.txWarning, 0x08), (.rxPassive, 0x10),
   (.txPassive, 0x20), (.active, 0x40)]

/-- ERR_TABLE.protocolType (42_error_decoder.md R172). -/
def protocolTypeTable : List (ProtocolStatusType × Byte) :=
  [(.singleBit, 0x01), (.format, 0x02), (.stuff, 0x04), (.bit0, 0x08), (.bit1, 0x10), (.overload, 0x20),
   (.activeAnnouncement, 0x40), (.txError, 0x80)]

/-- ERR_TABLE.protocolLocation (42_error_decoder.md R172). -/
def protocolLocationTable : List (ProtocolLocation × Byte) :=
  [(.unspecified, 0x00), (.id28to21, 0x02), (.sof, 0x03), (.srtr, 0x04), (.ide, 0x05), (.id20to18, 0x06),
   (.id17to13, 0x07), (.crcSeq, 0x08), (.res0, 0x09), (.data, 0x0A), (.dlc, 0x0B), (.rtr, 0x0C), (.res1, 0x0D),
   (.id04to00, 0x0E), (.id12to05, 0x0F), (.interm, 0x12), (.crcDel, 0x18), (.ack, 0x19), (.eof, 0x1A),
   (.ackDel, 0x1B)]

/-- ERR_TABLE.transceiver (42_error_decoder.md R172). -/
def transceiverTable : List (TransceiverStatus × Byte) :=
  [(.unspecified, 0x00), (.canhNoWire, 0x04), (.canhShortToBat, 0x05), (.canhShortToVcc, 0x06),
   (.canhShortToGnd, 0x07), (.canlNoWire, 0x40), (.canlShortToBat, 0x50), (.canlShortToVcc, 0x60),
   (.canlShortToGnd, 0x70), (.canlShortToCanh, 0x80)]

/-- ERR_TABLE as 42_error_decoder.md R172 gives it. -/
def errTableT0 : ErrTable where
  cls := errClassTable
  offArbitration := 0
  offController := 1
  offProtocolType := 2
  offProtocolLocation := 3
  offTransceiver := 4
  controller := controllerTable
  protocolType := protocolTypeTable
  protocolLocation := protocolLocationTable
  transceiver := transceiverTable

/-- ADDR_MAP of T0 (95_test_vectors.md section 1). -/
def addrMapT0 : List Channel :=
  [⟨⟨0x10, 0xF1, .physical, none⟩, 0x7E8, false, 0x7E0, false⟩,
   ⟨⟨0x22, 0xF1, .physical, some 0x55⟩, 0x18DAF122, true, 0x18DA22F1, true⟩,
   ⟨⟨0x33, 0xF1, .functional, none⟩, 0x7D0, false, 0x7DF, false⟩]

/-- The test configuration T0 (00_scope.md R12). -/
def paramsT0 : Params where
  wordOrder := .little
  addrMap := addrMapT0
  pRxCapacity := 4095
  pNBs := 1000000
  pNCr := 1000000
  pWftMax := 2
  pLocalStmin := 0
  pPadEn := false
  pPadByte := 0
  errTable := errTableT0

end Sys2Proof.Machine
end

