-- ==== Sys2Proof/Machine/State.lean ====
section
/-! DEFINITION. The state of the block (10_state.md R20 to R29), its outputs (00_scope.md R16, R17), the two ways a step
can stop, and the state after reset (10_state.md R41). Everything is plain data. -/

namespace Sys2Proof.Machine

/-! ### Registers -/

/-- The port mode (10_state.md R21). -/
inductive Mode where
  | unbound
  | bound
  | closed
deriving DecidableEq, Repr

/-- Which way a session's message goes (10_state.md R25). -/
inductive Direction where
  | sending
  | receiving
deriving DecidableEq, Repr

/-- The control position of a session (10_state.md R27). The source's `Idle` is a slot that is not valid. -/
inductive SessionState where
  | awaitingFlowControl
  | sendingConsecutive
  | accumulatingFF
deriving DecidableEq, Repr

/-- Which timer of a slot is armed (10_state.md R28). -/
inductive TimerKind where
  | none
  | bs
  | cr
  | st
deriving DecidableEq, Repr

/-- The registers of one session, and its message buffer `BUF[c]` as `buf` (10_state.md R25, R29). -/
structure Slot where
  valid : Bool
  direction : Direction
  state : SessionState
  totalLength : Nat
  bytesTransferred : Nat
  expectedSequenceNumber : BitVec 4
  deadline : Nat
  waitFlowControlCount : Nat
  timer : TimerKind
  blockSize : Nat
  blockRemaining : Nat
  stMinUs : Nat
  buf : Bytes
deriving DecidableEq, Repr

/-- A slot after reset: no session. The other fields are never read while `valid` is false (10_state.md R41;
log entry 12). -/
def Slot.idle : Slot :=
  ⟨false, .sending, .awaitingFlowControl, 0, 0, 0, 0, 0, .none, 0, 0, 0, []⟩

/-- The configuration registers (10_state.md R22, R23). The four `…Set` flags are the model's own: whether the
pass-through register has been written since reset (10_state.md R42; log entry 3). -/
structure Cfg where
  rxCapacity : BitVec 32
  nBs : BitVec 64
  nCr : BitVec 64
  wftMax : BitVec 8
  localStmin : Byte
  padEn : Bool
  padByte : Byte
  errMask : Word
  loopback : Bool
  recvOwn : Bool
  filters : List RawFilter
  errMaskSet : Bool
  loopbackSet : Bool
  recvOwnSet : Bool
  filtersSet : Bool
deriving DecidableEq, Repr

/-! ### Outcomes of an operation -/

/-- The ten result codes (60_exceptions.md R310). -/
inductive ResultCode where
  | ok
  | timeoutA
  | timeoutBs
  | timeoutCr
  | wrongSequenceNumber
  | invalidFlowStatus
  | unexpectedPdu
  | flowControlOverrun
  | bufferOverflow
  | genericError
deriving DecidableEq, Repr

/-- The error kinds (60_exceptions.md R313). `ioError` is in the list and no operation raises it. The texts three of
them carry are not specified and not carried (log entry 17). -/
inductive ErrorKind where
  | validationError
  | formatError
  | configurationError
  | systemCallError (errno : Nat)
  | ioError
  | notFoundError
  | alreadyBoundError
  | closedError
deriving DecidableEq, Repr

/-- The actions, the block's only outputs beside return values and errors (00_scope.md R17). -/
inductive Action where
  | txFrame (image : Bytes)
  | onMessage (payload : Bytes) (peer : PeerAddr) (result : ResultCode)
  | onErrorFrame (report : ErrorReport)
  | sendDone (peer : PeerAddr) (result : ResultCode)
  | rxReject (peer : PeerAddr) (result : ResultCode)
deriving DecidableEq, Repr

/-- What an operation returns (00_scope.md R16). -/
inductive RetVal where
  | bytes (b : Bytes)
  | frame (f : CanFrame)
  | filters (fs : List Filter)
  | report (r : ErrorReport)
  | value (v : Nat)
deriving DecidableEq, Repr

/-- How an operation ended (00_scope.md R16): without a value, with one, or with an error. -/
inductive OpResult where
  | noValue
  | value (v : RetVal)
  | raised (e : ErrorKind)
deriving DecidableEq, Repr

/-! ### The state -/

/-- The whole state. `mode`, `cfg` and `slots` are the block's (10_state.md R20); the rest is the model's own: the
parameters (log entry 1), the operations issued and not yet run (log entry 4), the outcomes the running operation has
not consumed, and the outputs of the last operation (log entry 5). -/
structure State where
  params : Params
  mode : Mode
  cfg : Cfg
  slots : List Slot
  pending : List Request
  txo : List TxOutcome
  actions : List Action
  result : OpResult
deriving DecidableEq, Repr

/-- The faults: there is none. No rule of the spec stops the machine; an error that is raised and a session that is
aborted both leave a next state (60_exceptions.md R311, R314). -/
inductive Fault where
deriving DecidableEq, Repr

/-- The refusals. -/
inductive Refusal where
  /-- An instruction without a meaning in this model; raised by `exec` in an arm of that kind, of which there is none. Safe. -/
  | notModelled (mnemonic : String)
  /-- A reserved operation selector, 12 to 15: "the block has no such operation" (30_encoding.md R116). Raised by the
  row OP_RESERVED_12_15. Safe. -/
  | reservedOperation (sel : BitVec 4)
  /-- A reserved register selector, 10 to 15: "the operation is refused (no meaning)" (43_port.md R200). Raised by
  CFG_WRITE, CFG_READ and the two reserved rows of group REG. Safe. -/
  | reservedRegister (sel : BitVec 4)
  /-- ERR_DECODE of a frame whose error flag is clear: "a model refuses it" (42_error_decoder.md R180). Safe. -/
  | notAnErrorFrame
  /-- A request whose bits are no encoding of any row (30_encoding.md R122). Raised by `step`. Safe. -/
  | badRequest (why : DecodeError)
deriving DecidableEq, Repr

/-- What a meaning answers. -/
abbrev Out := Host.Outcome State Fault Refusal

/-! ### Reset -/

/-- The configuration registers after reset: the transport registers at their parameters (10_state.md R41), the
pass-through registers at the family's usual values, which nothing can read before they are written (10_state.md R42;
log entries 2, 3). -/
def Cfg.resetWith (p : Params) : Cfg where
  rxCapacity := p.pRxCapacity
  nBs := p.pNBs
  nCr := p.pNCr
  wftMax := p.pWftMax
  localStmin := p.pLocalStmin
  padEn := p.pPadEn
  padByte := p.pPadByte
  errMask := 0
  loopback := true
  recvOwn := false
  filters := [⟨0, 0⟩]
  errMaskSet := false
  loopbackSet := false
  recvOwnSet := false
  filtersSet := false

/-- The block right after reset, for given parameters (10_state.md R41, 70_reset_and_hazards.md R350). -/
def State.resetWith (p : Params) : State where
  params := p
  mode := .unbound
  cfg := Cfg.resetWith p
  slots := List.replicate p.addrMap.length Slot.idle
  pending := []
  txo := []
  actions := []
  result := .noValue

/-- The block right after reset, with the parameters of the test configuration T0 (log entry 1). -/
def State.reset : State := State.resetWith paramsT0

end Sys2Proof.Machine
end

