-- ==== Sys2Proof/Machine/Operands.lean ====
section
/-! DEFINITION. Operand forms: images, transport frames, configuration registers, and the numbers the spec gives its
enumerations. Pure functions of the parameters, the registers and the operands. -/

namespace Sys2Proof.Machine

/-! ### Images (40_frame_codec.md) -/

/-- Pack (40_frame_codec.md R149). -/
def pack (wo : WordOrder) (f : CanFrame) : Bytes :=
  w32 wo (packWord f) ++ [BitVec.ofNat 8 f.length] ++ zeros 3 ++ f.payload

/-- Unpack (40_frame_codec.md R149); a caller gives it 16 bytes. -/
def unpack (wo : WordOrder) (b : Bytes) : CanFrame :=
  unpackWord (unW32 wo (b.take 4)) (byteAt b 4).toNat (b.drop 8)

/-- The frame ENCODE builds from a payload of at most eight bytes (40_frame_codec.md R141). -/
def encodedFrame (id : Word) (extended remoteRequest : Bool) (payload : Bytes) : CanFrame where
  id := (maskId id extended).setWidth 29
  extended := extended
  remoteRequest := remoteRequest
  error := false
  length := payload.length
  payload := payload ++ zeros (maxData - payload.length)

/-- The image ENCODE returns for a payload of at most eight bytes (40_frame_codec.md R141). -/
def encodeImage (wo : WordOrder) (id : Word) (extended remoteRequest : Bool) (payload : Bytes) : Bytes :=
  pack wo (encodedFrame id extended remoteRequest payload)

/-- DECODE; `none` is its FormatError (40_frame_codec.md R144 to R146). -/
def decodeImage (wo : WordOrder) (b : Bytes) : Option CanFrame :=
  if b.length ≠ frameSize then none else if maxData < (byteAt b 4).toNat then none else some (unpack wo b)

end Sys2Proof.Machine

namespace Sys2Proof

open Sys2Proof.Machine

/-! ### Channels (10_state.md R30, R31) -/

/-- What an index beyond ADDR_MAP reads as; every rule stays inside the table (10_state.md R30). -/
def noChannel : Channel := ⟨⟨0, 0, .physical, none⟩, 0, false, 0, false⟩

/-- Entry `c` of ADDR_MAP. -/
def Params.channel (p : Params) (c : Nat) : Channel := p.addrMap.getD c noChannel

/-- N_CH (00_scope.md R11). -/
def Params.nCh (p : Params) : Nat := p.addrMap.length

/-- The helper `chan` (10_state.md R31). -/
def Params.chan (p : Params) (peer : PeerAddr) : Option Nat := p.addrMap.findIdx? fun ch => decide (ch.peer = peer)

/-- Whether a frame is one of channel `ch` (44_tp_receive.md R223). -/
def Channel.accepts (ch : Channel) (f : CanFrame) : Bool :=
  decide (f.id = ch.rxId) && (f.extended == ch.rxExtended) &&
    match ch.peer.ext with
    | none => true
    | some e => decide (1 ≤ f.length) && decide (byteAt f.payload 0 = e)

/-- Lookup (44_tp_receive.md R223). -/
def Params.lookup (p : Params) (f : CanFrame) : Option Nat := p.addrMap.findIdx? fun ch => ch.accepts f

/-- Whether no frame can match both entries (10_state.md R30). -/
def Channel.apart (a b : Channel) : Bool :=
  !(decide (a.rxId = b.rxId) && (a.rxExtended == b.rxExtended)) ||
    (a.peer.ext.isSome && b.peer.ext.isSome && decide (a.peer.ext ≠ b.peer.ext))

/-- One entry's own condition: a standard identifier has 11 bits (10_state.md R30). -/
def Channel.wf (ch : Channel) : Bool :=
  (ch.rxExtended || decide (ch.rxId.toNat < 2 ^ 11)) && (ch.txExtended || decide (ch.txId.toNat < 2 ^ 11))

/-- Whether entry `ch` goes with each of `others`: another peer, and no frame in common (10_state.md R30). -/
def Channel.goesWith (ch : Channel) (others : List Channel) : Bool :=
  others.all fun d => decide (ch.peer ≠ d.peer) && ch.apart d

/-- Well-formedness of a list of entries (10_state.md R30). -/
def channelsWf : List Channel → Bool
  | [] => true
  | ch :: rest => ch.wf && ch.goesWith rest && channelsWf rest

/-- Well-formedness of the parameters (10_state.md R30, 00_scope.md R11): at least one channel. -/
def Params.wf (p : Params) : Bool := decide (1 ≤ p.nCh) && channelsWf p.addrMap

/-- AOFF: the payload index of the first PCI byte (30_encoding.md R99). -/
def Channel.aoff (ch : Channel) : Nat :=
  match ch.peer.ext with
  | none => 0
  | some _ => 1

/-- ExtBytes (30_encoding.md R99). -/
def Channel.extBytes (ch : Channel) : Bytes :=
  match ch.peer.ext with
  | none => []
  | some e => [e]

/-- SF_MAX (30_encoding.md R100). -/
def Channel.sfMax (ch : Channel) : Nat := 7 - ch.aoff

/-- FF_DATA (30_encoding.md R100). -/
def Channel.ffData (ch : Channel) (total : Nat) : Nat := if total ≤ 4095 then 6 - ch.aoff else 2 - ch.aoff

/-- CF_DATA (30_encoding.md R100). -/
def Channel.cfData (ch : Channel) : Nat := 7 - ch.aoff

end Sys2Proof

namespace Sys2Proof.Machine

/-! ### Transport frames (30_encoding.md R95 to R113) -/

/-- What PduDecode gives (10_state.md R35, 30_encoding.md R106). -/
inductive Npdu where
  | sf (data : Bytes)
  | ff (total : Nat) (data : Bytes)
  | cf (sn : BitVec 4) (data : Bytes)
  | fc (fs : BitVec 4) (bs st : Byte)
  | unknownType (t : BitVec 4)
  | invalid
deriving DecidableEq, Repr

/-- PduDecode on a data frame of channel `ch` (30_encoding.md R106). -/
def pduDecode (ch : Channel) (f : CanFrame) : Npdu :=
  let a := ch.aoff
  if f.length < a + 1 then .invalid
  else
    let pci := byteAt f.payload a
    let lo := loNibble pci
    match (hiNibble pci).toNat with
    | 0 =>
      if ch.sfMax < lo.toNat then .invalid
      else if f.length < a + 1 + lo.toNat then .invalid
      else .sf ((f.payload.drop (a + 1)).take lo.toNat)
    | 1 =>
      if f.length ≠ 8 then .invalid
      else
        let l12 := lo ++ byteAt f.payload (a + 1)
        if l12 ≠ 0 then
          if l12.toNat ≤ ch.sfMax then .invalid else .ff l12.toNat ((f.payload.take 8).drop (a + 2))
        else
          let l32 := wordOf (byteAt f.payload (a + 2)) (byteAt f.payload (a + 3)) (byteAt f.payload (a + 4))
            (byteAt f.payload (a + 5))
          if l32.toNat ≤ 4095 then .invalid else .ff l32.toNat ((f.payload.take 8).drop (a + 6))
    | 2 => if f.length < a + 2 then .invalid else .cf lo ((f.payload.take f.length).drop (a + 1))
    | 3 => if f.length < a + 3 then .invalid else .fc lo (byteAt f.payload (a + 1)) (byteAt f.payload (a + 2))
    | _ => .unknownType (hiNibble pci)

/-- StDecode: a separation-time byte in microseconds (30_encoding.md R110). -/
def stDecode (st : Byte) : Nat :=
  let v := st.toNat
  if v ≤ 0x7F then v * 1000
  else if 0xF1 ≤ v ∧ v ≤ 0xF9 then (v - 0xF0) * 100
  else 127000

/-- MkSF (30_encoding.md R111). -/
def mkSF (ch : Channel) (data : Bytes) : Bytes := ch.extBytes ++ [BitVec.ofNat 8 data.length] ++ data

/-- MkFF, in the form the length asks for (30_encoding.md R102, R111). -/
def mkFF (ch : Channel) (total : Nat) (data : Bytes) : Bytes :=
  if total ≤ 4095 then
    ch.extBytes ++ [pciByte 1 (BitVec.ofNat 4 (total / 256)), BitVec.ofNat 8 total] ++ data
  else ch.extBytes ++ [0x10, 0x00] ++ be32 (BitVec.ofNat 32 total) ++ data

/-- MkCF (30_encoding.md R111). -/
def mkCF (ch : Channel) (sn : BitVec 4) (data : Bytes) : Bytes := ch.extBytes ++ [pciByte 2 sn] ++ data

/-- MkFC (30_encoding.md R111). -/
def mkFC (ch : Channel) (fs : BitVec 4) (bs st : Byte) : Bytes := ch.extBytes ++ [pciByte 3 fs, bs, st]

/-- Pad (30_encoding.md R112). -/
def pad (cfg : Cfg) (b : Bytes) : Bytes := if cfg.padEn then b ++ fill (8 - b.length) cfg.padByte else b

/-- TpFrame: the image of an outbound transport frame (30_encoding.md R97, R111). -/
def tpFrame (p : Params) (cfg : Cfg) (c : Nat) (b : Bytes) : Bytes :=
  encodeImage p.wordOrder ((p.channel c).txId.setWidth 32) (p.channel c).txExtended false (pad cfg b)

/-! ### Configuration registers (10_state.md R22, R23; 30_encoding.md R117) -/

/-- The ten registers that have a selector. -/
inductive Reg where
  | rxCapacity
  | nBs
  | nCr
  | wftMax
  | localStmin
  | padEn
  | padByte
  | errMask
  | loopback
  | recvOwn
deriving DecidableEq, Repr

/-- The register a selector names (30_encoding.md R117). -/
def regOfSelector (sel : BitVec 4) : Option Reg :=
  match sel.toNat with
  | 0 => some .rxCapacity
  | 1 => some .nBs
  | 2 => some .nCr
  | 3 => some .wftMax
  | 4 => some .localStmin
  | 5 => some .padEn
  | 6 => some .padByte
  | 7 => some .errMask
  | 8 => some .loopback
  | 9 => some .recvOwn
  | _ => none

/-- The registers that stand for an option of the operating system (43_port.md R199). -/
def Reg.passThrough : Reg → Bool
  | .errMask => true
  | .loopback => true
  | .recvOwn => true
  | _ => false

/-- The bits that are error classes: ERR_TABLE.class joined (10_state.md R23). -/
def errClassBits (t : ErrTable) : Word :=
  t.cls.foldl (fun acc k => acc ||| k.2.setWidth 32) 0

/-- The legal values of a register (10_state.md R22, R23). An error mask is a set of error classes (log entry 30). -/
def regLegal (p : Params) (r : Reg) (v : Nat) : Bool :=
  match r with
  | .rxCapacity => decide (v < 2 ^ 32)
  | .nBs => decide (v < 2 ^ 64)
  | .nCr => decide (v < 2 ^ 64)
  | .wftMax => decide (v < 2 ^ 8)
  | .localStmin => decide (v < 2 ^ 8)
  | .padEn => decide (v < 2)
  | .padByte => decide (v < 2 ^ 8)
  | .errMask => decide (v < 2 ^ 32) && decide (BitVec.ofNat 32 v &&& ~~~errClassBits p.errTable = 0)
  | .loopback => decide (v < 2)
  | .recvOwn => decide (v < 2)

/-- The value of a register. A pass-through register that has not been written since reset reads as a free value
(10_state.md R42; log entry 3). -/
def regRead (cfg : Cfg) (r : Reg) : Nat :=
  match r with
  | .rxCapacity => cfg.rxCapacity.toNat
  | .nBs => cfg.nBs.toNat
  | .nCr => cfg.nCr.toNat
  | .wftMax => cfg.wftMax.toNat
  | .localStmin => cfg.localStmin.toNat
  | .padEn => cfg.padEn.toNat
  | .padByte => cfg.padByte.toNat
  | .errMask => if cfg.errMaskSet then cfg.errMask.toNat else Config.freeErrMask.toNat
  | .loopback => if cfg.loopbackSet then cfg.loopback.toNat else Config.freeLoopback.toNat
  | .recvOwn => if cfg.recvOwnSet then cfg.recvOwn.toNat else Config.freeRecvOwn.toNat

/-- The registers after a write of a legal value to one of them (43_port.md R198). -/
def regWrite (cfg : Cfg) (r : Reg) (v : Nat) : Cfg :=
  match r with
  | .rxCapacity => { cfg with rxCapacity := BitVec.ofNat 32 v }
  | .nBs => { cfg with nBs := BitVec.ofNat 64 v }
  | .nCr => { cfg with nCr := BitVec.ofNat 64 v }
  | .wftMax => { cfg with wftMax := BitVec.ofNat 8 v }
  | .localStmin => { cfg with localStmin := BitVec.ofNat 8 v }
  | .padEn => { cfg with padEn := decide (v ≠ 0) }
  | .padByte => { cfg with padByte := BitVec.ofNat 8 v }
  | .errMask => { cfg with errMask := BitVec.ofNat 32 v, errMaskSet := true }
  | .loopback => { cfg with loopback := decide (v ≠ 0), loopbackSet := true }
  | .recvOwn => { cfg with recvOwn := decide (v ≠ 0), recvOwnSet := true }

/-- The stored filter list, a free one of at most 512 pairs before the first FILTER_APPLY (10_state.md R23, R42;
log entry 3). -/
def storedFilters (cfg : Cfg) : List RawFilter :=
  if cfg.filtersSet then cfg.filters else Config.freeFilters.take maxFilters

/-- The image FLT of a list of raw pairs (20_memory.md R71). -/
def fltImage (wo : WordOrder) (raw : List RawFilter) : Bytes :=
  raw.flatMap fun p => w32 wo p.id ++ w32 wo p.mask

/-- ValidName (43_port.md R192). -/
def validName (name : Bytes) : Bool :=
  decide (1 ≤ name.length) && decide (name.length ≤ ifnameMax) &&
    name.all fun b => decide (0x01 ≤ b.toNat) && decide (b.toNat ≤ 0x7F)

/-! ### The spec's numbers for its enumerations -/

/-- The number of a port mode (10_state.md R21). -/
def Mode.number : Mode → Nat
  | .unbound => 0
  | .bound => 1
  | .closed => 2

/-- The number of a direction (10_state.md R25). -/
def Direction.number : Direction → Nat
  | .sending => 0
  | .receiving => 1

/-- The number of a control position (10_state.md R25). -/
def SessionState.number : SessionState → Nat
  | .awaitingFlowControl => 0
  | .sendingConsecutive => 1
  | .accumulatingFF => 2

/-- The number of a timer kind (10_state.md R25). -/
def TimerKind.number : TimerKind → Nat
  | .none => 0
  | .bs => 1
  | .cr => 2
  | .st => 3

/-- The number of a result code (60_exceptions.md R310). -/
def ResultCode.number : ResultCode → Nat
  | .ok => 0
  | .timeoutA => 1
  | .timeoutBs => 2
  | .timeoutCr => 3
  | .wrongSequenceNumber => 4
  | .invalidFlowStatus => 5
  | .unexpectedPdu => 6
  | .flowControlOverrun => 7
  | .bufferOverflow => 8
  | .genericError => 9

/-- The number of an error kind (60_exceptions.md R313). -/
def ErrorKind.number : ErrorKind → Nat
  | .validationError => 0
  | .formatError => 1
  | .configurationError => 2
  | .systemCallError _ => 3
  | .ioError => 4
  | .notFoundError => 5
  | .alreadyBoundError => 6
  | .closedError => 7

end Sys2Proof.Machine
end

