-- ==== Sys2Proof/Machine/Ops.lean ====
section
/-! DEFINITION. The named operations every meaning is written in: reading and writing slots and buffers, emitting an
action, transmitting, raising an error (the block's exception entry), ending a session, arming a timer, and the gates of
the port mode. There is no return from an exception: what a raised error or an aborted session leaves is the next state
itself (60_exceptions.md R314, R322). -/

namespace Sys2Proof.Machine

/-! ### Byte spaces -/

/-- MemRead: `n` bytes at offset `off`; a rule stays inside the space (00_scope.md R15, 20_memory.md R72). -/
def memRead (b : Bytes) (off n : Nat) : Bytes := (b.drop off).take n

/-- MemWrite: `data` at offset `off`; a rule appends, with `off` the length of the space (20_memory.md R72). -/
def memWrite (b : Bytes) (off : Nat) (data : Bytes) : Bytes := b.take off ++ data ++ b.drop (off + data.length)

/-! ### Slots and outputs -/

/-- The slot of channel `c` (10_state.md R24). -/
def State.slot (s : State) (c : Nat) : Slot := s.slots.getD c Slot.idle

/-- Replace the slot of channel `c`. -/
def setSlot (c : Nat) (sl : Slot) (s : State) : State := { s with slots := s.slots.set c sl }

/-- Entry `c` of ADDR_MAP. -/
def State.channel (s : State) (c : Nat) : Channel := s.params.channel c

/-- `peer(c)` (44_tp_receive.md, heading). -/
def State.peer (s : State) (c : Nat) : PeerAddr := (s.channel c).peer

/-- `emit` (00_scope.md R16). -/
def emit (a : Action) (s : State) : State := { s with actions := s.actions ++ [a] }

/-- `raise`: the operation has ended with an error of kind `k`; what it wrote and emitted stays, and nothing else
changes (00_scope.md R16, 60_exceptions.md R314). -/
def raise (k : ErrorKind) (s : State) : State := { s with result := .raised k }

/-- `return v` (00_scope.md R16). -/
def returnValue (v : RetVal) (s : State) : State := { s with result := .value v }

/-! ### The frame of an operation -/

/-- The start of an operation: no output yet, the outcomes of its `Tx` calls at hand (00_scope.md R16, R18). -/
def startOp (txo : List TxOutcome) (s : State) : State := { s with txo := txo, actions := [], result := .noValue }

/-- The end of an operation: outcomes not asked for are gone (43_port.md R208). -/
def endOp (s : State) : State := { s with txo := [] }

/-- One operation, start to end (00_scope.md R16). -/
def runOp (txo : List TxOutcome) (body : State → State) (s : State) : Out := .next (endOp (body (startOp txo s)))

/-- The mode gate of the configuration operations: they run in `Unbound` and `Bound` (43_port.md R190). -/
def configGate (body : State → State) (s : State) : State :=
  match s.mode with
  | .closed => raise .closedError s
  | .unbound => body s
  | .bound => body s

/-- The mode gate of RX_RAW and SEND: they run in `Bound`; on an unbound port the environment supplies the `errno`
(43_port.md R190). -/
def trafficGate (errno : Nat) (body : State → State) (s : State) : State :=
  match s.mode with
  | .closed => raise .closedError s
  | .unbound => raise (.systemCallError errno) s
  | .bound => body s

/-! ### Transmission -/

/-- Tx (43_port.md R208): the outcome, and the state with the frame emitted if it is `Done`. A list of outcomes reads as
`Done` past its end. -/
def tx (image : Bytes) (s : State) : TxOutcome × State :=
  match s.txo with
  | [] => (.done, emit (.txFrame image) s)
  | .done :: rest => (.done, emit (.txFrame image) { s with txo := rest })
  | .fail :: rest => (.fail, { s with txo := rest })
  | .timeout :: rest => (.timeout, { s with txo := rest })

/-- TxCode (43_port.md R209). -/
def txCode (o : TxOutcome) : ResultCode :=
  match o with
  | .done => .ok
  | .fail => .genericError
  | .timeout => .timeoutA

/-! ### Ending a session (60_exceptions.md section 3) -/

/-- Finish: one delivery, then the slot is free (60_exceptions.md R320). -/
def finish (c : Nat) (code : ResultCode) (s : State) : State :=
  let sl := s.slot c
  let a : Action :=
    match sl.direction with
    | .receiving => .onMessage (memRead sl.buf 0 sl.bytesTransferred) (s.peer c) code
    | .sending => .sendDone (s.peer c) code
  setSlot c { sl with valid := false } (emit a s)

/-- Abort: a session ends with a failure code (60_exceptions.md R320). -/
def abort (c : Nat) (code : ResultCode) (s : State) : State := finish c code s

/-- Complete: a session ends with `Ok` (60_exceptions.md R321). -/
def complete (c : Nat) (s : State) : State := finish c .ok s

/-- A report: a frame its session does not expect is discarded (44_tp_receive.md R249). -/
def report (c : Nat) (s : State) : State := emit (.onMessage [] (s.peer c) .unexpectedPdu) s

/-! ### Timers (46_tp_timers.md) -/

/-- Dur: how long a timer of a kind runs (46_tp_timers.md R291). -/
def timerDuration (cfg : Cfg) (sl : Slot) (k : TimerKind) : Nat :=
  match k with
  | .none => 0
  | .bs => cfg.nBs.toNat
  | .cr => cfg.nCr.toNat
  | .st => sl.stMinUs

/-- Arm (46_tp_timers.md R291). -/
def arm (c : Nat) (k : TimerKind) (now : Nat) (s : State) : State :=
  let sl := s.slot c
  setSlot c { sl with timer := k, deadline := now + timerDuration s.cfg sl k } s

/-- Whether the timer of a slot has expired (46_tp_timers.md R292). -/
def Slot.expired (sl : Slot) (now : Nat) : Bool := sl.valid && decide (sl.deadline ≤ now)

/-! ### Creating a session (10_state.md R24) -/

/-- A session created: every field the creating rules write (44_tp_receive.md R228, 45_tp_send.md R256). The timer is
armed afterwards; until then its deadline is what the slot held. -/
def Slot.created (old : Slot) (dir : Direction) (st : SessionState) (total transferred : Nat) (data : Bytes) : Slot :=
  { old with
    valid := true
    direction := dir
    state := st
    totalLength := total
    buf := memWrite [] 0 data
    bytesTransferred := transferred
    expectedSequenceNumber := 1
    waitFlowControlCount := 0
    blockSize := 0
    blockRemaining := 0
    stMinUs := 0
    timer := .none }

end Sys2Proof.Machine
end

