-- ==== Sys2Proof/Machine/Codec.lean ====
section
/-! DEFINITION. The frame codec: ENCODE, DECODE (40_frame_codec.md), and ERR_DECODE (42_error_decoder.md). They read no
register, write none and run in every port mode (43_port.md R190). -/

namespace Sys2Proof.Machine

/-- ENCODE (40_frame_codec.md R141, R142). -/
def execEncode (id : Word) (extended remoteRequest : Bool) (payload : Bytes) (s : State) : Out :=
  runOp []
    (fun s =>
      if maxData < payload.length then raise .validationError s
      else returnValue (.bytes (encodeImage s.params.wordOrder id extended remoteRequest payload)) s)
    s

/-- DECODE (40_frame_codec.md R144 to R146). -/
def execDecode (bytes : Bytes) (s : State) : Out :=
  runOp []
    (fun s =>
      match decodeImage s.params.wordOrder bytes with
      | none => raise .formatError s
      | some f => returnValue (.frame f) s)
    s

/-! ### The error decoder -/

/-- The names of a table whose bits are set in `w`: an intersection, in the table's order (42_error_decoder.md R174;
log entry 15). -/
def bitNames {α : Type} {n : Nat} (table : List (α × BitVec n)) (w : BitVec n) : List α :=
  (table.filter fun k => decide (k.2 &&& w ≠ 0)).map Prod.fst

/-- The name whose value is `v`, or the sentinel (42_error_decoder.md R171, R178). DESIGN CHOICE: where a table gives two
names one value, the first in the table's order (log entry 32). -/
def nameOf {α : Type} (table : List (α × Byte)) (unknown : α) (v : Byte) : α :=
  match table.find? fun k => decide (k.2 = v) with
  | some k => k.1
  | none => unknown

/-- The report of ERR_DECODE (42_error_decoder.md R171, R173 to R178): at most one detail group, in fixed priority. -/
def errorReport (t : ErrTable) (f : CanFrame) : ErrorReport :=
  let classes := bitNames t.cls f.id
  let none' : ErrorReport := ⟨classes, none, [], [], none, none⟩
  if .lostArbitration ∈ classes then
    { none' with arbitrationPosition := some (byteAt f.payload t.offArbitration.val) }
  else if .controllerError ∈ classes then
    { none' with controllerFlags := bitNames t.controller (byteAt f.payload t.offController.val) }
  else if .protocolViolation ∈ classes then
    { none' with
      protocolType := bitNames t.protocolType (byteAt f.payload t.offProtocolType.val)
      protocolLocation := some (nameOf t.protocolLocation .unknown (byteAt f.payload t.offProtocolLocation.val)) }
  else if .transceiverStatus ∈ classes then
    { none' with transceiverStatus := some (nameOf t.transceiver .unknown (byteAt f.payload t.offTransceiver.val)) }
  else none'

/-- ERR_DECODE (42_error_decoder.md R171). A frame whose error flag is clear is refused (R180). -/
def execErrDecode (frame : CanFrame) (s : State) : Out :=
  if frame.error then runOp [] (fun s => returnValue (.report (errorReport s.params.errTable frame)) s) s
  else .refused .notAnErrorFrame

end Sys2Proof.Machine
end

