-- ==== Sys2Proof/Machine/FilterSet.lean ====
section
/-! DEFINITION. The filter set: FILTER_APPLY, FILTER_READ, and the rows of group FLTENT (41_filter_set.md). -/

namespace Sys2Proof.Machine

/-- FILTER_APPLY (41_filter_set.md R157). -/
def execFilterApply (filters : List Filter) (sysOk : Bool) (errno : Nat) (s : State) : Out :=
  runOp []
    (configGate fun s =>
      if maxFilters < filters.length then raise .configurationError s
      else if !sysOk then raise (.systemCallError errno) s
      else
        let raw := filters.map filterEncode
        returnValue (.bytes (fltImage s.params.wordOrder raw))
          { s with cfg := { s.cfg with filters := raw, filtersSet := true } })
    s

/-- FILTER_READ (41_filter_set.md R160). -/
def execFilterRead (sysOk : Bool) (errno : Nat) (s : State) : Out :=
  runOp []
    (configGate fun s =>
      if !sysOk then raise (.systemCallError errno) s
      else returnValue (.filters ((storedFilters s.cfg).map filterDecode)) s)
    s

/-- A raw pair read back as the filter it stands for; like the encoding it is a pure function of its argument
(41_filter_set.md R161, 20_memory.md R69; log entry 11). -/
def readPair (p : RawFilter) (s : State) : Out := runOp [] (returnValue (.filters [filterDecode p])) s

/-- FLT_ID_EXTENDED: a pair whose id has the extended-flag bit (41_filter_set.md R156, R161). -/
def execFltIdExtended (p : RawFilter) (s : State) : Out := readPair p s

/-- FLT_ID_INVERT: a pair whose id has the inversion bit (30_encoding.md R93, 41_filter_set.md R161). -/
def execFltIdInvert (p : RawFilter) (s : State) : Out := readPair p s

/-- FLT_MASK_TYPED: a pair whose mask has both type bits (41_filter_set.md R161). -/
def execFltMaskTyped (p : RawFilter) (s : State) : Out := readPair p s

end Sys2Proof.Machine
end

