-- ==== Sys2Proof/Machine/Transport.lean ====
section
/-! DEFINITION. The segmented transport: the handlers of received frames (44_tp_receive.md), the emission of
ConsecutiveFrames and the handler of FlowControl (45_tp_send.md), the expiry pass (46_tp_timers.md). Each takes the
state to the next; what it sends and delivers is among the state's actions. -/

namespace Sys2Proof.Machine

/-! ### Sending (45_tp_send.md) -/

/-- The bytes a session still has to move in its next ConsecutiveFrame (44_tp_receive.md R242, 45_tp_send.md R273). -/
def nextChunk (ch : Channel) (sl : Slot) : Nat := min ch.cfData (sl.totalLength - sl.bytesTransferred)

/-- The image of the ConsecutiveFrame a sending session sends next (45_tp_send.md R272, R274). -/
def nextCfImage (c : Nat) (s : State) : Bytes :=
  let sl := s.slot c
  let ch := s.channel c
  tpFrame s.params s.cfg c
    (mkCF ch sl.expectedSequenceNumber (memRead sl.buf sl.bytesTransferred (nextChunk ch sl)))

/-- What follows a ConsecutiveFrame that went out: completion, the end of a block, or the separation time
(45_tp_send.md R275, R276). -/
def afterCf (c now : Nat) (s : State) : State :=
  let sl := s.slot c
  let sl1 := { sl with
    bytesTransferred := sl.bytesTransferred + nextChunk (s.channel c) sl
    expectedSequenceNumber := sl.expectedSequenceNumber + 1 }
  if sl1.bytesTransferred = sl1.totalLength then complete c (setSlot c sl1 s)
  else if sl1.blockSize ≠ 0 then
    let sl2 := { sl1 with blockRemaining := sl1.blockRemaining - 1 }
    if sl2.blockRemaining = 0 then arm c .bs now (setSlot c { sl2 with state := .awaitingFlowControl } s)
    else arm c .st now (setSlot c sl2 s)
  else arm c .st now (setSlot c sl1 s)

/-- SendNextCF (45_tp_send.md R272, R277). -/
def sendNextCF (c now : Nat) (s : State) : State :=
  match tx (nextCfImage c s) s with
  | (.done, s) => afterCf c now s
  | (.fail, s) => abort c (txCode .fail) s
  | (.timeout, s) => abort c (txCode .timeout) s

/-- A ContinueToSend: its block and separation values replace the old, and the first frame of the block goes out
(45_tp_send.md R265, R266, R267). -/
def fcContinue (c : Nat) (bs st : Byte) (now : Nat) (s : State) : State :=
  sendNextCF c now
    (setSlot c
      { s.slot c with
        blockSize := bs.toNat
        blockRemaining := bs.toNat
        stMinUs := stDecode st
        waitFlowControlCount := 0
        state := .sendingConsecutive }
      s)

/-- A Wait: the count goes up, and past CFG.WFT_MAX the session ends (45_tp_send.md R268). -/
def fcWait (c now : Nat) (s : State) : State :=
  let sl := { s.slot c with waitFlowControlCount := (s.slot c).waitFlowControlCount + 1 }
  let s1 := setSlot c sl s
  if s.cfg.wftMax.toNat < sl.waitFlowControlCount then abort c .flowControlOverrun s1 else arm c .bs now s1

/-- RxFC (45_tp_send.md R265). -/
def rxFC (c : Nat) (fs : BitVec 4) (bs st : Byte) (now : Nat) (s : State) : State :=
  if (s.slot c).valid = false ∨ (s.slot c).state ≠ .awaitingFlowControl then report c s
  else
    match fs.toNat with
    | 0 => fcContinue c bs st now s
    | 1 => fcWait c now s
    | 2 => abort c .bufferOverflow s
    | _ => abort c .invalidFlowStatus s

/-! ### The expiry pass (46_tp_timers.md R293) -/

/-- One slot's turn in the pass. A valid slot has a timer armed (10_state.md R26; log entry 14). -/
def expireSlot (now c : Nat) (s : State) : State :=
  if (s.slot c).expired now then
    match (s.slot c).timer with
    | .bs => abort c .timeoutBs s
    | .cr => abort c .timeoutCr s
    | .st => sendNextCF c now s
    | .none => s
  else s

/-- Expire: every slot once, in ascending order (46_tp_timers.md R293). -/
def expire (now : Nat) (s : State) : State :=
  (List.range s.params.nCh).foldl (fun s c => expireSlot now c s) s

/-! ### Receiving (44_tp_receive.md) -/

/-- Whether a channel has a session that receives. -/
def State.receiving (s : State) (c : Nat) : Bool := (s.slot c).valid && decide ((s.slot c).direction = .receiving)

/-- RxSF (44_tp_receive.md R226). -/
def rxSF (c : Nat) (data : Bytes) (s : State) : State :=
  let s := if s.receiving c then abort c .unexpectedPdu s else s
  emit (.onMessage data (s.peer c) .ok) s

/-- The image of the FlowControl the block sends (44_tp_receive.md R233). -/
def flowControlImage (c : Nat) (s : State) : Bytes :=
  tpFrame s.params s.cfg c (mkFC (s.channel c) 0 0 s.cfg.localStmin)

/-- A receiving session starts: the first chunk stored, the FlowControl sent, the Cr timer armed (44_tp_receive.md R228,
R232 to R234). -/
def startReceiving (c total : Nat) (data : Bytes) (now : Nat) (s : State) : State :=
  let s := setSlot c ((s.slot c).created .receiving .accumulatingFF total data.length data) s
  match tx (flowControlImage c s) s with
  | (.done, s) => arm c .cr now s
  | (.fail, s) => abort c (txCode .fail) s
  | (.timeout, s) => abort c (txCode .timeout) s

/-- RxFF (44_tp_receive.md R228 to R231). -/
def rxFF (c total : Nat) (data : Bytes) (now : Nat) (s : State) : State :=
  if (s.peer c).taType = .functional then s
  else if s.cfg.rxCapacity.toNat < total then emit (.rxReject (s.peer c) .bufferOverflow) s
  else if (s.slot c).valid then
    match (s.slot c).direction with
    | .sending => report c s
    | .receiving => startReceiving c total data now (abort c .unexpectedPdu s)
  else startReceiving c total data now s

/-- A ConsecutiveFrame's bytes stored: completion, or the next number and the Cr timer afresh (44_tp_receive.md R243,
R244). -/
def storeCf (c : Nat) (data : Bytes) (now : Nat) (s : State) : State :=
  let sl := s.slot c
  let n := nextChunk (s.channel c) sl
  let sl1 := { sl with
    buf := memWrite sl.buf sl.bytesTransferred (data.take n)
    bytesTransferred := sl.bytesTransferred + n }
  if sl1.bytesTransferred = sl1.totalLength then complete c (setSlot c sl1 s)
  else arm c .cr now (setSlot c { sl1 with expectedSequenceNumber := sl.expectedSequenceNumber + 1 } s)

/-- RxCF (44_tp_receive.md R240 to R242). -/
def rxCF (c : Nat) (sn : BitVec 4) (data : Bytes) (now : Nat) (s : State) : State :=
  if (s.slot c).valid = false ∨ (s.slot c).state ≠ .accumulatingFF then report c s
  else if sn ≠ (s.slot c).expectedSequenceNumber then abort c .wrongSequenceNumber s
  else if data.length < nextChunk (s.channel c) (s.slot c) then s
  else storeCf c data now s

/-- RxUnknown (44_tp_receive.md R248). -/
def rxUnknown (c : Nat) (s : State) : State := report c s

/-- TP_RX, on a frame that is not an error frame (44_tp_receive.md R220 to R223). -/
def tpRx (f : CanFrame) (now : Nat) (s : State) : State :=
  if f.remoteRequest then s
  else
    match s.params.lookup f with
    | none => s
    | some c =>
      match pduDecode (s.channel c) f with
      | .invalid => s
      | .sf data => rxSF c data s
      | .ff total data => rxFF c total data now s
      | .cf sn data => rxCF c sn data now s
      | .fc fs bs st => rxFC c fs bs st now s
      | .unknownType _ => rxUnknown c s

end Sys2Proof.Machine
end

