-- ==== Sys2Proof/Machine/Port.lean ====
section
/-! DEFINITION. The port shell (43_port.md): BIND, CLOSE, CFG_WRITE, CFG_READ, the rows of group REG, and RX_RAW. -/

namespace Sys2Proof.Machine

/-! ### BIND and CLOSE -/

/-- BIND (43_port.md R192). -/
def execBind (name : Bytes) (res : BindRes) (s : State) : Out :=
  runOp []
    (fun s =>
      match s.mode with
      | .closed => raise .closedError s
      | .bound => raise .alreadyBoundError s
      | .unbound =>
        if !validName name then raise .validationError s
        else
          match res with
          | .notFound => raise .notFoundError s
          | .sysFail errno => raise (.systemCallError errno) s
          | .ok => { s with mode := .bound })
    s

/-- One slot's turn in CLOSE (43_port.md R194). -/
def closeSlot (c : Nat) (s : State) : State := if (s.slot c).valid then abort c .genericError s else s

/-- Every session ended, in ascending order (43_port.md R194). -/
def closeSessions (s : State) : State := (List.range s.params.nCh).foldl (fun s c => closeSlot c s) s

/-- CLOSE (43_port.md R194, R196). -/
def execClose (s : State) : Out :=
  runOp []
    (fun s =>
      match s.mode with
      | .closed => raise .closedError s
      | .unbound => { closeSessions s with mode := .closed }
      | .bound => { closeSessions s with mode := .closed })
    s

/-! ### Configuration registers -/

/-- The body of CFG_WRITE for a register (43_port.md R198). -/
def writeReg (r : Reg) (value : Nat) (sysOk : Bool) (errno : Nat) (s : State) : State :=
  configGate
    (fun s =>
      if !regLegal s.params r value then raise .validationError s
      else if r.passThrough && !sysOk then raise (.systemCallError errno) s
      else { s with cfg := regWrite s.cfg r value })
    s

/-- The body of CFG_READ for a register (43_port.md R197). -/
def readReg (r : Reg) (sysOk : Bool) (errno : Nat) (s : State) : State :=
  configGate
    (fun s =>
      if r.passThrough && !sysOk then raise (.systemCallError errno) s
      else returnValue (.value (regRead s.cfg r)) s)
    s

/-- CFG_WRITE (43_port.md R198). A reserved selector names no register and the operation is refused (R200). -/
def execCfgWrite (reg : BitVec 4) (value : Nat) (sysOk : Bool) (errno : Nat) (s : State) : Out :=
  match regOfSelector reg with
  | none => .refused (.reservedRegister reg)
  | some r => runOp [] (writeReg r value sysOk errno) s

/-- CFG_READ (43_port.md R197, R200). -/
def execCfgRead (reg : BitVec 4) (sysOk : Bool) (errno : Nat) (s : State) : Out :=
  match regOfSelector reg with
  | none => .refused (.reservedRegister reg)
  | some r => runOp [] (readReg r sysOk errno) s

/-- An access to one register, a read or a write (43_port.md R197, R198; log entry 8). -/
def accessReg (r : Reg) (acc : RegAccess) (s : State) : Out :=
  match acc with
  | .read sysOk errno => runOp [] (readReg r sysOk errno) s
  | .write value sysOk errno => runOp [] (writeReg r value sysOk errno) s

/-- REG_RX_CAPACITY (10_state.md R22). -/
def execRegRxCapacity (acc : RegAccess) (s : State) : Out := accessReg .rxCapacity acc s

/-- REG_N_BS (10_state.md R22). -/
def execRegNBs (acc : RegAccess) (s : State) : Out := accessReg .nBs acc s

/-- REG_N_CR (10_state.md R22). -/
def execRegNCr (acc : RegAccess) (s : State) : Out := accessReg .nCr acc s

/-- REG_WFT_MAX (10_state.md R22). -/
def execRegWftMax (acc : RegAccess) (s : State) : Out := accessReg .wftMax acc s

/-- REG_LOCAL_STMIN (10_state.md R22). -/
def execRegLocalStmin (acc : RegAccess) (s : State) : Out := accessReg .localStmin acc s

/-- REG_PAD_EN (10_state.md R22). -/
def execRegPadEn (acc : RegAccess) (s : State) : Out := accessReg .padEn acc s

/-- REG_PAD_BYTE (10_state.md R22). -/
def execRegPadByte (acc : RegAccess) (s : State) : Out := accessReg .padByte acc s

/-- REG_ERR_MASK (10_state.md R23). -/
def execRegErrMask (acc : RegAccess) (s : State) : Out := accessReg .errMask acc s

/-- REG_LOOPBACK (10_state.md R23). -/
def execRegLoopback (acc : RegAccess) (s : State) : Out := accessReg .loopback acc s

/-- REG_RECV_OWN (10_state.md R23). -/
def execRegRecvOwn (acc : RegAccess) (s : State) : Out := accessReg .recvOwn acc s

/-- REG_RESERVED_10_11: no such register (43_port.md R200). -/
def execRegReserved10to11 (low : BitVec 1) (_s : State) : Out := .refused (.reservedRegister (5#3 ++ low))

/-- REG_RESERVED_12_15: no such register (43_port.md R200). -/
def execRegReserved12to15 (low : BitVec 2) (_s : State) : Out := .refused (.reservedRegister (3#2 ++ low))

/-- OP_RESERVED_12_15: the block has no such operation (30_encoding.md R116). -/
def execOpReserved12to15 (low : BitVec 2) (_s : State) : Out := .refused (.reservedOperation (3#2 ++ low))

/-! ### Inbound units -/

/-- What every inbound unit goes through first: the mode gate, then the expiry pass (43_port.md R205). -/
def inbound (rx : RxArgs) (body : State → State) (s : State) : Out :=
  runOp rx.txo (trafficGate rx.errno fun s => body (expire rx.now.toNat s)) s

/-- A decoded frame: an error frame is reported to the consumer, any other goes to the transport (43_port.md R205, R206). -/
def deliver (f : CanFrame) (now : Nat) (s : State) : State :=
  if f.error then emit (.onErrorFrame (errorReport s.params.errTable f)) s else tpRx f now s

/-- RX_RAW (43_port.md R205): a unit that is no frame raises FormatError after the expiry pass. -/
def execRxRaw (bytes : Bytes) (rx : RxArgs) (s : State) : Out :=
  inbound rx
    (fun s =>
      match decodeImage s.params.wordOrder bytes with
      | none => raise .formatError s
      | some f => deliver f rx.now.toNat s)
    s

end Sys2Proof.Machine
end

