-- ==== Sys2Proof/Machine/Inbound.lean ====
section
/-! DEFINITION. The rows of the groups IMG, ERRFRM and NPDU: an inbound unit of that kind, treated as RX_RAW treats it,
each written from the rule its row names (30_encoding.md R89, R94, R96, R123; log entries 9, 10). -/

namespace Sys2Proof.Machine

/-! ### Frame kinds (30_encoding.md R89) -/

/-- The length byte of an image is looked at before its flags (30_encoding.md R123, 40_frame_codec.md R146). -/
def checkedLength (len : Byte) (body : State → State) (s : State) : State :=
  if maxData < len.toNat then raise .formatError s else body s

/-- FRAME_STD_DATA: a data frame whose identifier is word bits 10:0 (30_encoding.md R88, R89). -/
def execFrameStdData (b : ImgBody) (rx : RxArgs) (s : State) : Out :=
  inbound rx
    (checkedLength b.len (tpRx ⟨b.word &&& 0x7FF, false, false, false, b.len.toNat, b.payload⟩ rx.now.toNat))
    s

/-- FRAME_EXT_DATA: a data frame whose identifier is word bits 28:0 (30_encoding.md R88, R89). -/
def execFrameExtData (b : ImgBody) (rx : RxArgs) (s : State) : Out :=
  inbound rx (checkedLength b.len (tpRx ⟨b.word, true, false, false, b.len.toNat, b.payload⟩ rx.now.toNat)) s

/-- FRAME_STD_REMOTE: carried by the codec, ignored by the transport (44_tp_receive.md R222). -/
def execFrameStdRemote (b : ImgBody) (rx : RxArgs) (s : State) : Out := inbound rx (checkedLength b.len id) s

/-- FRAME_EXT_REMOTE: carried by the codec, ignored by the transport (44_tp_receive.md R222). -/
def execFrameExtRemote (b : ImgBody) (rx : RxArgs) (s : State) : Out := inbound rx (checkedLength b.len id) s

/-- An error frame becomes a report to the consumer; it touches no session (43_port.md R206). -/
def inboundError (eff rtr : Bool) (b : ImgBody) (rx : RxArgs) (s : State) : Out :=
  inbound rx
    (checkedLength b.len fun s =>
      emit (.onErrorFrame (errorReport s.params.errTable ⟨b.word, eff, rtr, true, b.len.toNat, b.payload⟩)) s)
    s

/-- FRAME_ERROR (30_encoding.md R94). -/
def execFrameError (eff rtr : Bool) (b : ImgBody) (rx : RxArgs) (s : State) : Out := inboundError eff rtr b rx s

/-! ### Error classes (42_error_decoder.md R172) -/

/-- ERRCLASS_Timeout: an error frame with class bit 0. -/
def execErrClassTimeout (eff rtr : Bool) (b : ImgBody) (rx : RxArgs) (s : State) : Out := inboundError eff rtr b rx s

/-- ERRCLASS_LostArbitration: an error frame with class bit 1. -/
def execErrClassLostArbitration (eff rtr : Bool) (b : ImgBody) (rx : RxArgs) (s : State) : Out :=
  inboundError eff rtr b rx s

/-- ERRCLASS_ControllerError: an error frame with class bit 2. -/
def execErrClassControllerError (eff rtr : Bool) (b : ImgBody) (rx : RxArgs) (s : State) : Out :=
  inboundError eff rtr b rx s

/-- ERRCLASS_ProtocolViolation: an error frame with class bit 3. -/
def execErrClassProtocolViolation (eff rtr : Bool) (b : ImgBody) (rx : RxArgs) (s : State) : Out :=
  inboundError eff rtr b rx s

/-- ERRCLASS_TransceiverStatus: an error frame with class bit 4. -/
def execErrClassTransceiverStatus (eff rtr : Bool) (b : ImgBody) (rx : RxArgs) (s : State) : Out :=
  inboundError eff rtr b rx s

/-- ERRCLASS_NoAck: an error frame with class bit 5. -/
def execErrClassNoAck (eff rtr : Bool) (b : ImgBody) (rx : RxArgs) (s : State) : Out := inboundError eff rtr b rx s

/-- ERRCLASS_BusOff: an error frame with class bit 6. -/
def execErrClassBusOff (eff rtr : Bool) (b : ImgBody) (rx : RxArgs) (s : State) : Out := inboundError eff rtr b rx s

/-- ERRCLASS_BusError: an error frame with class bit 7. -/
def execErrClassBusError (eff rtr : Bool) (b : ImgBody) (rx : RxArgs) (s : State) : Out := inboundError eff rtr b rx s

/-- ERRCLASS_Restarted: an error frame with class bit 8. -/
def execErrClassRestarted (eff rtr : Bool) (b : ImgBody) (rx : RxArgs) (s : State) : Out := inboundError eff rtr b rx s

/-! ### Transport frames (30_encoding.md R96) -/

/-- The arrival on channel `c` of a data frame whose payload, less the extension byte, has `n` bytes: frame length
`AOFF(c) + n`, which is at most 8 in any image; an index that is no channel has no frames (log entry 10). -/
def inboundPdu (c n : Nat) (rx : RxArgs) (body : State → State) (s : State) : Out :=
  inbound rx
    (fun s =>
      if maxData < (s.channel c).aoff + n then raise .formatError s else if c < s.params.nCh then body s else s)
    s

/-- NPDU_SF (44_tp_receive.md R226; well-formed by 30_encoding.md R101, R106). -/
def execNpduSf (c : Nat) (dl : BitVec 4) (rest : Bytes) (rx : RxArgs) (s : State) : Out :=
  inboundPdu c (1 + rest.length) rx
    (fun s =>
      if (s.channel c).sfMax < dl.toNat ∨ rest.length < dl.toNat then s else rxSF c (rest.take dl.toNat) s)
    s

/-- NPDU_FF32: the length is the four bytes after the PCI's two, most significant first (30_encoding.md R104, R106;
44_tp_receive.md R228). -/
def execNpduFf32 (c : Nat) (rest : Bytes) (rx : RxArgs) (s : State) : Out :=
  inboundPdu c (2 + rest.length) rx
    (fun s =>
      let total := (wordOf (byteAt rest 0) (byteAt rest 1) (byteAt rest 2) (byteAt rest 3)).toNat
      if (s.channel c).aoff + 2 + rest.length ≠ 8 ∨ total ≤ 4095 then s
      else rxFF c total (rest.drop 4) rx.now.toNat s)
    s

/-- NPDU_FF12 (30_encoding.md R103, R106; 44_tp_receive.md R228). -/
def execNpduFf12 (c : Nat) (len : BitVec 12) (rest : Bytes) (rx : RxArgs) (s : State) : Out :=
  inboundPdu c (2 + rest.length) rx
    (fun s =>
      if (s.channel c).aoff + 2 + rest.length ≠ 8 ∨ len.toNat ≤ (s.channel c).sfMax then s
      else rxFF c len.toNat rest rx.now.toNat s)
    s

/-- NPDU_CF (30_encoding.md R105, R106; 44_tp_receive.md R240). -/
def execNpduCf (c : Nat) (sn : BitVec 4) (rest : Bytes) (rx : RxArgs) (s : State) : Out :=
  inboundPdu c (1 + rest.length) rx (fun s => if rest.length < 1 then s else rxCF c sn rest rx.now.toNat s) s

/-- A FlowControl frame: BS and STmin follow the first PCI byte; shorter ones are ignored (30_encoding.md R106, R107). -/
def inboundFc (c : Nat) (fs : BitVec 4) (rest : Bytes) (rx : RxArgs) (s : State) : Out :=
  inboundPdu c (1 + rest.length) rx
    (fun s => if rest.length < 2 then s else rxFC c fs (byteAt rest 0) (byteAt rest 1) rx.now.toNat s) s

/-- NPDU_FC_CTS (45_tp_send.md R265, R266). -/
def execNpduFcCts (c : Nat) (rest : Bytes) (rx : RxArgs) (s : State) : Out := inboundFc c 0 rest rx s

/-- NPDU_FC_WAIT (45_tp_send.md R268). -/
def execNpduFcWait (c : Nat) (rest : Bytes) (rx : RxArgs) (s : State) : Out := inboundFc c 1 rest rx s

/-- NPDU_FC_OVERFLOW (45_tp_send.md R269). -/
def execNpduFcOverflow (c : Nat) (rest : Bytes) (rx : RxArgs) (s : State) : Out := inboundFc c 2 rest rx s

/-- NPDU_FC_RESERVED_3 (45_tp_send.md R270). -/
def execNpduFcReserved3 (c : Nat) (rest : Bytes) (rx : RxArgs) (s : State) : Out := inboundFc c 3 rest rx s

/-- NPDU_FC_RESERVED_4_7 (45_tp_send.md R270). -/
def execNpduFcReserved4to7 (c : Nat) (low : BitVec 2) (rest : Bytes) (rx : RxArgs) (s : State) : Out :=
  inboundFc c (1#2 ++ low) rest rx s

/-- NPDU_FC_RESERVED_8_F (45_tp_send.md R270). -/
def execNpduFcReserved8toF (c : Nat) (low : BitVec 3) (rest : Bytes) (rx : RxArgs) (s : State) : Out :=
  inboundFc c (1#1 ++ low) rest rx s

/-- NPDU_UNKNOWN_4_7 (44_tp_receive.md R248). -/
def execNpduUnknown4to7 (c : Nat) (_low : BitVec 6) (rest : Bytes) (rx : RxArgs) (s : State) : Out :=
  inboundPdu c (1 + rest.length) rx (rxUnknown c) s

/-- NPDU_UNKNOWN_8_F (44_tp_receive.md R248). -/
def execNpduUnknown8toF (c : Nat) (_low : BitVec 7) (rest : Bytes) (rx : RxArgs) (s : State) : Out :=
  inboundPdu c (1 + rest.length) rx (rxUnknown c) s

end Sys2Proof.Machine
end

