-- ==== Sys2Proof/Machine/Send.lean ====
section
/-! DEFINITION. SEND (45_tp_send.md R256) and TICK (46_tp_timers.md R294). -/

namespace Sys2Proof.Machine

/-- The SingleFrame path: no session is read or written (45_tp_send.md R257). -/
def sendSingle (c : Nat) (payload : Bytes) (peer : PeerAddr) (s : State) : State :=
  let r := tx (tpFrame s.params s.cfg c (mkSF (s.channel c) payload)) s
  emit (.sendDone peer (txCode r.1)) r.2

/-- The image of the FirstFrame of a sending session (45_tp_send.md R260, R261). -/
def firstFrameImage (c : Nat) (s : State) : Bytes :=
  let sl := s.slot c
  let ch := s.channel c
  tpFrame s.params s.cfg c (mkFF ch sl.totalLength (memRead sl.buf 0 (ch.ffData sl.totalLength)))

/-- A sending session starts: the payload copied, the FirstFrame sent, the Bs timer armed (45_tp_send.md R260 to R263). -/
def startSending (c : Nat) (payload : Bytes) (now : Nat) (s : State) : State :=
  let total := payload.length
  let s := setSlot c
    ((s.slot c).created .sending .awaitingFlowControl total ((s.channel c).ffData total) payload) s
  match tx (firstFrameImage c s) s with
  | (.done, s) => arm c .bs now s
  | (.fail, s) => abort c (txCode .fail) s
  | (.timeout, s) => abort c (txCode .timeout) s

/-- SEND after its checks, for channel `c` (45_tp_send.md R256, R257, R259). -/
def sendAccepted (c : Nat) (payload : Bytes) (peer : PeerAddr) (now : Nat) (s : State) : State :=
  let s := expire now s
  if payload.length ≤ (s.channel c).sfMax then sendSingle c payload peer s
  else if (s.slot c).valid then emit (.sendDone peer .genericError) s
  else startSending c payload now s

/-- SEND (45_tp_send.md R256, R258). -/
def execSend (payload : Bytes) (peer : PeerAddr) (rx : RxArgs) (s : State) : Out :=
  runOp rx.txo
    (trafficGate rx.errno fun s =>
      match s.params.chan peer with
      | none => raise .validationError s
      | some c =>
        if maxTotalLength < payload.length then raise .validationError s
        else if (s.channel c).sfMax < payload.length ∧ peer.taType = .functional then raise .validationError s
        else sendAccepted c payload peer rx.now.toNat s)
    s

/-- TICK: the expiry pass, in any mode; it never raises (46_tp_timers.md R294). -/
def execTick (now : BitVec 64) (txo : List TxOutcome) (s : State) : Out := runOp txo (expire now.toNat) s

end Sys2Proof.Machine
end

