-- ==== Sys2Proof/Machine/Dispatch.lean ====
section
/-! DEFINITION. One instruction to its meaning: one arm for each row of spec/opcode_table.json. -/

namespace Sys2Proof.Machine

open Sys2Proof

/-- One operation of the block (30_encoding.md R116, R122). -/
def exec (i : Instr) (s : State) : Host.Outcome State Fault Refusal :=
  match i with
  | .encode id extended remoteRequest payload => Sys2Proof.Machine.execEncode id extended remoteRequest payload s
  | .decode bytes => Sys2Proof.Machine.execDecode bytes s
  | .filterApply filters sysOk errno => Sys2Proof.Machine.execFilterApply filters sysOk errno s
  | .filterRead sysOk errno => Sys2Proof.Machine.execFilterRead sysOk errno s
  | .errDecode frame => Sys2Proof.Machine.execErrDecode frame s
  | .bind name res => Sys2Proof.Machine.execBind name res s
  | .close => Sys2Proof.Machine.execClose s
  | .cfgWrite reg value sysOk errno => Sys2Proof.Machine.execCfgWrite reg value sysOk errno s
  | .cfgRead reg sysOk errno => Sys2Proof.Machine.execCfgRead reg sysOk errno s
  | .rxRaw bytes rx => Sys2Proof.Machine.execRxRaw bytes rx s
  | .send payload peer rx => Sys2Proof.Machine.execSend payload peer rx s
  | .tick now txo => Sys2Proof.Machine.execTick now txo s
  | .opReserved12to15 low => Sys2Proof.Machine.execOpReserved12to15 low s
  | .regRxCapacity acc => Sys2Proof.Machine.execRegRxCapacity acc s
  | .regNBs acc => Sys2Proof.Machine.execRegNBs acc s
  | .regNCr acc => Sys2Proof.Machine.execRegNCr acc s
  | .regWftMax acc => Sys2Proof.Machine.execRegWftMax acc s
  | .regLocalStmin acc => Sys2Proof.Machine.execRegLocalStmin acc s
  | .regPadEn acc => Sys2Proof.Machine.execRegPadEn acc s
  | .regPadByte acc => Sys2Proof.Machine.execRegPadByte acc s
  | .regErrMask acc => Sys2Proof.Machine.execRegErrMask acc s
  | .regLoopback acc => Sys2Proof.Machine.execRegLoopback acc s
  | .regRecvOwn acc => Sys2Proof.Machine.execRegRecvOwn acc s
  | .regReserved10to11 low => Sys2Proof.Machine.execRegReserved10to11 low s
  | .regReserved12to15 low => Sys2Proof.Machine.execRegReserved12to15 low s
  | .frameStdData img rx => Sys2Proof.Machine.execFrameStdData img rx s
  | .frameExtData img rx => Sys2Proof.Machine.execFrameExtData img rx s
  | .frameStdRemote img rx => Sys2Proof.Machine.execFrameStdRemote img rx s
  | .frameExtRemote img rx => Sys2Proof.Machine.execFrameExtRemote img rx s
  | .frameError eff rtr img rx => Sys2Proof.Machine.execFrameError eff rtr img rx s
  | .errClassTimeout eff rtr img rx => Sys2Proof.Machine.execErrClassTimeout eff rtr img rx s
  | .errClassLostArbitration eff rtr img rx => Sys2Proof.Machine.execErrClassLostArbitration eff rtr img rx s
  | .errClassControllerError eff rtr img rx => Sys2Proof.Machine.execErrClassControllerError eff rtr img rx s
  | .errClassProtocolViolation eff rtr img rx => Sys2Proof.Machine.execErrClassProtocolViolation eff rtr img rx s
  | .errClassTransceiverStatus eff rtr img rx => Sys2Proof.Machine.execErrClassTransceiverStatus eff rtr img rx s
  | .errClassNoAck eff rtr img rx => Sys2Proof.Machine.execErrClassNoAck eff rtr img rx s
  | .errClassBusOff eff rtr img rx => Sys2Proof.Machine.execErrClassBusOff eff rtr img rx s
  | .errClassBusError eff rtr img rx => Sys2Proof.Machine.execErrClassBusError eff rtr img rx s
  | .errClassRestarted eff rtr img rx => Sys2Proof.Machine.execErrClassRestarted eff rtr img rx s
  | .npduSf c dl rest rx => Sys2Proof.Machine.execNpduSf c dl rest rx s
  | .npduFf32 c rest rx => Sys2Proof.Machine.execNpduFf32 c rest rx s
  | .npduFf12 c len rest rx => Sys2Proof.Machine.execNpduFf12 c len rest rx s
  | .npduCf c sn rest rx => Sys2Proof.Machine.execNpduCf c sn rest rx s
  | .npduFcCts c rest rx => Sys2Proof.Machine.execNpduFcCts c rest rx s
  | .npduFcWait c rest rx => Sys2Proof.Machine.execNpduFcWait c rest rx s
  | .npduFcOverflow c rest rx => Sys2Proof.Machine.execNpduFcOverflow c rest rx s
  | .npduFcReserved3 c rest rx => Sys2Proof.Machine.execNpduFcReserved3 c rest rx s
  | .npduFcReserved4to7 c low rest rx => Sys2Proof.Machine.execNpduFcReserved4to7 c low rest rx s
  | .npduFcReserved8toF c low rest rx => Sys2Proof.Machine.execNpduFcReserved8toF c low rest rx s
  | .npduUnknown4to7 c low rest rx => Sys2Proof.Machine.execNpduUnknown4to7 c low rest rx s
  | .npduUnknown8toF c low rest rx => Sys2Proof.Machine.execNpduUnknown8toF c low rest rx s
  | .fltIdExtended pair => Sys2Proof.Machine.execFltIdExtended pair s
  | .fltIdInvert pair => Sys2Proof.Machine.execFltIdInvert pair s
  | .fltMaskTyped pair => Sys2Proof.Machine.execFltMaskTyped pair s

end Sys2Proof.Machine
end

