-- ==== Sys2Proof/Machine/Fetch.lean ====
section
/-! DEFINITION. Where the next operation comes from. The block fetches nothing (20_memory.md R80): the environment
issues operations one at a time, each carried out to its end before the next (00_scope.md R16, 20_memory.md R75). The
operations it has issued and that have not run stand in the state, oldest first (log entry 4). -/

namespace Sys2Proof.Machine

/-- The next operation to run, and the state without it; `none` when the environment has issued nothing. -/
def fetch (s : State) : Option (Request × State) :=
  match s.pending with
  | [] => none
  | r :: rest => some (r, { s with pending := rest })

/-- The environment issues a request that is to run before those it has issued already. -/
def issueFirst (r : Request) (s : State) : State := { s with pending := r :: s.pending }

end Sys2Proof.Machine
end

