-- ==== Sys2Proof/Machine/Step.lean ====
section
/-! DEFINITION. One step: the next operation the environment has issued, from start to end. With none issued the block
is at rest and holds its state (60_exceptions.md R334). -/

namespace Sys2Proof.Machine

/-- One step of the block. -/
def step (s : State) : Host.Outcome State Fault Refusal :=
  match fetch s with
  | none => .next s
  | some (r, s) =>
    match decode s.params.wordOrder r with
    | .ok i => exec i s
    | .rejected why => .refused (.badRequest why)

/-- `s` with the operation of an opcode-table word as the next one issued (log entries 4, 7). -/
def State.withFetchWord (s : State) (nbits w : Nat) : State :=
  issueFirst (requestOfWord s.params.wordOrder nbits w) s

end Sys2Proof.Machine
end

