-- ==== Sys2Proof/Safety.lean ====
section
/-! DEFINITION. The invariants of the block (10_state.md R23 to R26, 43_port.md R193, 45_tp_send.md R283), and the words
in which statements speak of an operation: the state it leaves, the state its expiry pass leaves, what ending a session
delivers. -/

namespace Sys2Proof.Machine

/-! ### Invariants -/

/-- What holds of a valid slot of a channel with this peer (10_state.md R26, items 1 to 4 and 7). -/
abbrev Slot.SessionInv (sl : Slot) (peer : PeerAddr) : Prop :=
  (sl.direction = .sending ↔ sl.state ≠ .accumulatingFF) ∧
  sl.bytesTransferred < sl.totalLength ∧
  (sl.timer = .bs ↔ sl.state = .awaitingFlowControl) ∧
  (sl.timer = .cr ↔ sl.state = .accumulatingFF) ∧
  (sl.timer = .st ↔ sl.state = .sendingConsecutive) ∧
  (sl.direction = .receiving → sl.buf.length = sl.bytesTransferred) ∧
  (sl.direction = .sending → sl.buf.length = sl.totalLength) ∧
  peer.taType = .physical

/-- The ranges of a valid slot's numbers (10_state.md R25, 45_tp_send.md R283). -/
abbrev Slot.RangeInv (sl : Slot) : Prop :=
  sl.totalLength ≤ maxTotalLength ∧
  sl.waitFlowControlCount ≤ 255 ∧
  sl.blockSize ≤ 255 ∧
  sl.blockRemaining ≤ 255 ∧
  (sl.state = .sendingConsecutive → sl.blockSize ≠ 0 → 1 ≤ sl.blockRemaining ∧ sl.blockRemaining ≤ sl.blockSize) ∧
  sl.stMinUs ≤ 127000

/-- A slot as it may stand after an operation: without a session, or with one on a bound port (43_port.md R193) of
which `SessionInv` and `RangeInv` hold. -/
def Slot.ok (sl : Slot) (mode : Mode) (peer : PeerAddr) : Bool :=
  !sl.valid || (decide (mode = .bound) && decide (sl.SessionInv peer) && decide sl.RangeInv)

/-- The invariant of the block: one slot for each channel (10_state.md R24), each as `Slot.ok` says, at most 512 filters
(10_state.md R23). -/
abbrev State.Inv (s : State) : Prop :=
  s.slots.length = s.params.nCh ∧
  (∀ c, c < s.params.nCh → (s.slot c).ok s.mode (s.peer c) = true) ∧
  s.cfg.filters.length ≤ maxFilters

/-- A safe step: one that is carried out and keeps the invariant. -/
def SafeStep (s t : State) : Prop := step s = .next t ∧ t.Inv

/-! ### What an operation leaves -/

/-- The next state, if there is one. -/
def nextState (o : Out) : Option State :=
  match o with
  | .next s => some s
  | .fault _ => none
  | .refused _ => none

/-- An operation that wrote no register: its actions and how it ended, everything else as it was. -/
def State.ended (s : State) (actions : List Action) (result : OpResult) : State :=
  { s with txo := [], actions := actions, result := result }

/-- The state after the expiry pass at the head of a timed operation (46_tp_timers.md R293). -/
def State.served (s : State) (now : BitVec 64) (txo : List TxOutcome) : State := expire now.toNat (startOp txo s)

/-- What follows the expiry pass: further actions, and perhaps one slot written. `s` is the state after the pass. -/
def State.andThen (s : State) (actions : List Action) : State := s.ended (s.actions ++ actions) .noValue

/-- As `State.andThen`, with slot `c` written. -/
def State.andThenSlot (s : State) (c : Nat) (sl : Slot) (actions : List Action) : State :=
  { s.andThen actions with slots := s.slots.set c sl }

/-- No valid slot's deadline is at or before `now` (46_tp_timers.md R292). -/
def State.NoneExpired (s : State) (now : BitVec 64) : Prop := ∀ c, c < s.params.nCh → (s.slot c).expired now.toNat = false

/-- The answer of the environment to the next `Tx` call (43_port.md R208). -/
def State.nextTx (s : State) : TxOutcome := s.txo.headD .done

/-! ### Deliveries (60_exceptions.md R312, R320) -/

/-- What ending session `c` with `code` delivers. -/
def State.delivery (s : State) (c : Nat) (code : ResultCode) : Action :=
  match (s.slot c).direction with
  | .receiving => .onMessage ((s.slot c).buf.take (s.slot c).bytesTransferred) (s.peer c) code
  | .sending => .sendDone (s.peer c) code

/-- A slot whose session has ended. -/
def Slot.freed (sl : Slot) : Slot := { sl with valid := false }

/-- The report of a frame that no session expects (44_tp_receive.md R249). -/
def State.unexpected (s : State) (c : Nat) : Action := .onMessage [] (s.peer c) .unexpectedPdu

/-! ### Kinds of instruction -/

/-- The arguments of an inbound unit, for the rows that are one. -/
def inboundArgs : Instr → Option RxArgs
  | .rxRaw _ rx | .frameStdData _ rx | .frameExtData _ rx | .frameStdRemote _ rx | .frameExtRemote _ rx
  | .frameError _ _ _ rx | .errClassTimeout _ _ _ rx | .errClassLostArbitration _ _ _ rx
  | .errClassControllerError _ _ _ rx | .errClassProtocolViolation _ _ _ rx | .errClassTransceiverStatus _ _ _ rx
  | .errClassNoAck _ _ _ rx | .errClassBusOff _ _ _ rx | .errClassBusError _ _ _ rx | .errClassRestarted _ _ _ rx
  | .npduSf _ _ _ rx | .npduFf32 _ _ rx | .npduFf12 _ _ _ rx | .npduCf _ _ _ rx | .npduFcCts _ _ rx
  | .npduFcWait _ _ rx | .npduFcOverflow _ _ rx | .npduFcReserved3 _ _ rx | .npduFcReserved4to7 _ _ _ rx
  | .npduFcReserved8toF _ _ _ rx | .npduUnknown4to7 _ _ _ rx | .npduUnknown8toF _ _ _ rx => some rx
  | .encode _ _ _ _ | .decode _ | .filterApply _ _ _ | .filterRead _ _ | .errDecode _ | .bind _ _ | .close
  | .cfgWrite _ _ _ _ | .cfgRead _ _ _ | .send _ _ _ | .tick _ _ | .opReserved12to15 _ | .regRxCapacity _
  | .regNBs _ | .regNCr _ | .regWftMax _ | .regLocalStmin _ | .regPadEn _ | .regPadByte _ | .regErrMask _
  | .regLoopback _ | .regRecvOwn _ | .regReserved10to11 _ | .regReserved12to15 _ | .fltIdExtended _
  | .fltIdInvert _ | .fltMaskTyped _ => none

/-- The register and the access of a row of group REG that names a register. -/
def regRow : Instr → Option (Reg × RegAccess)
  | .regRxCapacity acc => some (.rxCapacity, acc)
  | .regNBs acc => some (.nBs, acc)
  | .regNCr acc => some (.nCr, acc)
  | .regWftMax acc => some (.wftMax, acc)
  | .regLocalStmin acc => some (.localStmin, acc)
  | .regPadEn acc => some (.padEn, acc)
  | .regPadByte acc => some (.padByte, acc)
  | .regErrMask acc => some (.errMask, acc)
  | .regLoopback acc => some (.loopback, acc)
  | .regRecvOwn acc => some (.recvOwn, acc)
  | _ => none

/-- The operations a closed port refuses with ClosedError (43_port.md R190): all but the pure ones and TICK. A reserved
selector names no operation or register and is refused in every mode. -/
def portOp : Instr → Bool
  | .cfgWrite reg _ _ _ | .cfgRead reg _ _ => decide (reg.toNat < 10)
  | .filterApply _ _ _ | .filterRead _ _ | .bind _ _ | .close | .send _ _ _ => true
  | i => (regRow i).isSome || (inboundArgs i).isSome

/-- The channel and the arguments of a row of group NPDU. -/
def npduRow : Instr → Option (Nat × RxArgs)
  | .npduSf c _ _ rx | .npduFf32 c _ rx | .npduFf12 c _ _ rx | .npduCf c _ _ rx | .npduFcCts c _ rx
  | .npduFcWait c _ rx | .npduFcOverflow c _ rx | .npduFcReserved3 c _ rx | .npduFcReserved4to7 c _ _ rx
  | .npduFcReserved8toF c _ _ rx | .npduUnknown4to7 c _ _ rx | .npduUnknown8toF c _ _ rx => some (c, rx)
  | _ => none

/-- A FirstFrame row whose frame is well-formed on its channel: the advertised length and the first chunk
(30_encoding.md R103, R104, R106). -/
def FirstFrame (p : Params) (i : Instr) (c total : Nat) (data : Bytes) (rx : RxArgs) : Prop :=
  (∃ len rest, i = .npduFf12 c len rest rx ∧ total = len.toNat ∧ data = rest ∧
    (p.channel c).aoff + 2 + rest.length = 8 ∧ 7 - (p.channel c).aoff < total) ∨
  (∃ b3 b2 b1 b0 rest, i = .npduFf32 c (b3 :: b2 :: b1 :: b0 :: rest) rx ∧
    total = b3.toNat * 2 ^ 24 + b2.toNat * 2 ^ 16 + b1.toNat * 2 ^ 8 + b0.toNat ∧ data = rest ∧
    (p.channel c).aoff + 6 + rest.length = 8 ∧ 4095 < total)

/-! ### Outbound frames (30_encoding.md R97, R112) -/

/-- The image of a frame to the peer of channel `c` with these payload bytes, padded if padding is on. -/
def State.frameTo (s : State) (c : Nat) (b : Bytes) : Bytes :=
  encodeImage s.params.wordOrder ((s.channel c).txId.setWidth 32) (s.channel c).txExtended false
    (if s.cfg.padEn then b ++ List.replicate (8 - b.length) s.cfg.padByte else b)

/-- How many bytes the next ConsecutiveFrame of a session moves (45_tp_send.md R273, 44_tp_receive.md R242). -/
def State.chunk (s : State) (c : Nat) (sl : Slot) : Nat :=
  min (7 - (s.channel c).aoff) (sl.totalLength - sl.bytesTransferred)

/-- The ConsecutiveFrame a sending session `sl` of channel `c` sends next (45_tp_send.md R272, R274). -/
def State.cfTo (s : State) (c : Nat) (sl : Slot) : Bytes :=
  s.frameTo c ((s.channel c).extBytes ++ [0x20 ||| sl.expectedSequenceNumber.setWidth 8] ++
    (sl.buf.drop sl.bytesTransferred).take (s.chunk c sl))

/-- The slot after that frame went out (45_tp_send.md R275, R276): the message complete, the block used up, or the
separation time to wait. -/
def State.cfSent (s : State) (c : Nat) (sl : Slot) (now : Nat) : Slot :=
  let moved := sl.bytesTransferred + s.chunk c sl
  let next := { sl with bytesTransferred := moved, expectedSequenceNumber := sl.expectedSequenceNumber + 1 }
  if moved = sl.totalLength then { next with valid := false }
  else if sl.blockSize = 0 then { next with timer := .st, deadline := now + sl.stMinUs }
  else if sl.blockRemaining = 1 then
    { next with
      blockRemaining := 0, state := .awaitingFlowControl, timer := .bs, deadline := now + s.cfg.nBs.toNat }
  else { next with blockRemaining := sl.blockRemaining - 1, timer := .st, deadline := now + sl.stMinUs }

/-- What that frame's operation emits (45_tp_send.md R276). -/
def State.cfActions (s : State) (c : Nat) (sl : Slot) : List Action :=
  .txFrame (s.cfTo c sl) ::
    (if sl.bytesTransferred + s.chunk c sl = sl.totalLength then [.sendDone (s.peer c) .ok] else [])

/-- A session that has taken a ContinueToSend (45_tp_send.md R265, R267); the separation time is the table of
30_encoding.md R110, written out. -/
def Slot.continued (sl : Slot) (bs st : Byte) : Slot :=
  { sl with
    blockSize := bs.toNat
    blockRemaining := bs.toNat
    stMinUs :=
      if st.toNat ≤ 0x7F then st.toNat * 1000
      else if 0xF1 ≤ st.toNat ∧ st.toNat ≤ 0xF9 then (st.toNat - 0xF0) * 100
      else 127000
    waitFlowControlCount := 0
    state := .sendingConsecutive }

/-! ### The expiry pass (46_tp_timers.md R293) -/

/-- Whether slot `c` offers a frame to `Tx` in a pass at `now`: its St timer has expired. -/
def State.sendsAt (s : State) (now c : Nat) : Bool := (s.slot c).expired now && decide ((s.slot c).timer = .st)

/-- The answer to that offer: the outcomes are consumed in ascending channel order, and the list reads as `Done` past its
end (43_port.md R208). -/
def State.answerAt (s : State) (now : Nat) (txo : List TxOutcome) (c : Nat) : TxOutcome :=
  txo.getD ((List.range c).countP (s.sendsAt now)) .done

/-- What slot `c` emits in the pass, and what it holds afterwards (46_tp_timers.md R295, 45_tp_send.md R276, R277). -/
def State.fired (s : State) (now : Nat) (txo : List TxOutcome) (c : Nat) : List Action × Slot :=
  let sl := s.slot c
  if sl.expired now then
    match sl.timer with
    | .none => ([], sl)
    | .bs => ([s.delivery c .timeoutBs], sl.freed)
    | .cr => ([s.delivery c .timeoutCr], sl.freed)
    | .st =>
      match s.answerAt now txo c with
      | .done => (s.cfActions c sl, s.cfSent c sl now)
      | .fail => ([.sendDone (s.peer c) .genericError], sl.freed)
      | .timeout => ([.sendDone (s.peer c) .timeoutA], sl.freed)
  else ([], sl)

/-! ### Whole messages -/

/-- What the environment does to bring about the next ConsecutiveFrame of a session: the two bytes of a ContinueToSend,
used when the session awaits one, and the time and the outcomes of the operation. -/
structure Turn where
  bs : Byte
  st : Byte
  rx : RxArgs
deriving DecidableEq, Repr

/-- The operation of a turn: a ContinueToSend to a session that awaits FlowControl, a TICK to any other. -/
def Turn.instr (t : Turn) (c : Nat) (sl : Slot) : Instr :=
  match sl.state with
  | .awaitingFlowControl => .npduFcCts c [t.bs, t.st] t.rx
  | .sendingConsecutive | .accumulatingFF => .tick t.rx.now t.rx.txo

/-- Whether a turn comes in time: a ContinueToSend before the Bs deadline, a TICK at or after the St deadline. -/
def Turn.timely (t : Turn) (sl : Slot) : Bool :=
  match sl.state with
  | .awaitingFlowControl => decide (t.rx.now.toNat < sl.deadline)
  | .sendingConsecutive | .accumulatingFF => decide (sl.deadline ≤ t.rx.now.toNat)

/-- The turns of a session carried out one after the other: every action they emit, in order, and the state after them. -/
def takeTurns (c : Nat) : List Turn → State → Option (List Action × State)
  | [], s => some ([], s)
  | t :: rest, s =>
    (nextState (exec (t.instr c (s.slot c)) s)).bind fun s' =>
      (takeTurns c rest s').map fun r => (s'.actions ++ r.1, r.2)

/-- Each turn comes in time for the slot as the turns before it leave it. -/
def turnsTimely (c : Nat) : List Turn → State → Bool
  | [], _ => true
  | t :: rest, s =>
    t.timely (s.slot c) &&
      match nextState (exec (t.instr c (s.slot c)) s) with
      | some s' => turnsTimely c rest s'
      | none => true


/-- What a SingleFrame leaves; `e` is the state after the expiry pass (44_tp_receive.md R226). -/
def State.singleFrame (e : State) (c : Nat) (data : Bytes) : State :=
  if (e.slot c).valid = true ∧ (e.slot c).direction = .receiving then
    e.andThenSlot c (e.slot c).freed [e.delivery c .unexpectedPdu, .onMessage data (e.peer c) .ok]
  else e.andThen [.onMessage data (e.peer c) .ok]

/-- ConsecutiveFrames handled one after the other, numbered from `sn` on (44_tp_receive.md R250). -/
def feed (c : Nat) (sn : BitVec 4) : List (Bytes × RxArgs) → State → Option State
  | [], s => some s
  | (d, rx) :: rest, s => (nextState (exec (.npduCf c sn d rx) s)).bind (feed c (sn + 1) rest)

/-- Each frame comes before its Cr deadline, which is `nCr` after the frame before it. -/
def onTime (nCr : Nat) : Nat → List (Bytes × RxArgs) → Bool
  | _, [] => true
  | deadline, (_, rx) :: rest => decide (rx.now.toNat < deadline) && onTime nCr (rx.now.toNat + nCr) rest

end Sys2Proof.Machine
end

