-- ==== Sys2Proof/Certificates/Slice0/Obligations.lean ====
section
/-! DEFINITION. The statements for the provers. Where a statement speaks of `s.served now txo` it means the state after
the expiry pass at the head of a timed operation (46_tp_timers.md R293), so that it holds whether or not a timer has
expired. A next state written as an update of a state says that everything else is as it was. A row of group NPDU has
the effect of the rule that the opcode table names for it (30_encoding.md R122); that the expiry pass and the mode gate of
RX_RAW stand around it is the model's choice, log entry 10. -/

open Sys2Proof Sys2Proof.Machine

/-! ### Frame codec (40_frame_codec.md) -/

/-- ENCODE's result and its one error (R141, R142). -/
def Obligations.EncodeResult : Prop :=
  ∀ (id : Word) (extended remoteRequest : Bool) (payload : Bytes) (s : State),
    exec (.encode id extended remoteRequest payload) s = .next
      (if 8 < payload.length then s.ended [] (.raised .validationError)
      else s.ended [] (.value (.bytes
        (w32 s.params.wordOrder
          ((if extended then (id &&& 0x1FFFFFFF#32) ||| 0x80000000#32 else id &&& 0x7FF#32) |||
            (if remoteRequest then 0x40000000#32 else 0#32)) ++
          [BitVec.ofNat 8 payload.length, 0, 0, 0] ++ payload ++ List.replicate (8 - payload.length) 0))))

/-- DECODE's result and its two errors (R144, R145, R146). -/
def Obligations.DecodeResult : Prop :=
  ∀ (bytes : Bytes) (s : State),
    exec (.decode bytes) s = .next
      (if bytes.length ≠ 16 ∨ 8 < (bytes.getD 4 0).toNat then s.ended [] (.raised .formatError)
      else
        let w := unW32 s.params.wordOrder (bytes.take 4)
        s.ended [] (.value (.frame
          { id := if w.getLsbD 29 || w.getLsbD 31 then w.extractLsb' 0 29 else (w.extractLsb' 0 11).setWidth 29
            extended := w.getLsbD 31
            remoteRequest := w.getLsbD 30
            error := w.getLsbD 29
            length := (bytes.getD 4 0).toNat
            payload := bytes.drop 8 })))

/-- DECODE after ENCODE (R148), for both byte orders. -/
def Obligations.CodecRoundTrip : Prop :=
  ∀ (id : Word) (extended remoteRequest : Bool) (payload : Bytes) (s : State), payload.length ≤ 8 →
    ∃ image frame,
      exec (.encode id extended remoteRequest payload) s = .next (s.ended [] (.value (.bytes image))) ∧
      exec (.decode image) s = .next (s.ended [] (.value (.frame frame))) ∧
      frame.id.setWidth 32 = (if extended then id &&& 0x1FFFFFFF#32 else id &&& 0x7FF#32) ∧
      frame.extended = extended ∧ frame.remoteRequest = remoteRequest ∧ frame.error = false ∧
      frame.length = payload.length ∧ frame.payload.take frame.length = payload

/-- When packing an unpacked image gives it back (R150, second half). For an error frame whose extended flag is clear and
whose word bits 28:11 are not zero this rests on the model's choice of log entry 26: R88's PackWord read as it stands
masks that identifier to 11 bits. -/
def Obligations.PackUnpack : Prop :=
  ∀ (wo : WordOrder) (b : Bytes), b.length = 16 → (b.getD 4 0).toNat ≤ 8 → (b.drop 5).take 3 = [0, 0, 0] →
    ((unW32 wo (b.take 4)).getLsbD 31 = false → (unW32 wo (b.take 4)).getLsbD 29 = false →
      (unW32 wo (b.take 4)).extractLsb' 11 18 = 0) →
    pack wo (unpack wo b) = b

/-! ### Filter set (41_filter_set.md) -/

/-- FILTER_APPLY: its errors in order, the list stored, the image returned (R157). -/
def Obligations.FilterApplyResult : Prop :=
  ∀ (filters : List Filter) (sysOk : Bool) (errno : Nat) (s : State),
    let raw := filters.map fun f => RawFilter.mk
      (f.id ||| (if f.exclusivity = .extended then 0x80000000#32 else 0#32) |||
        (if f.invert then 0x20000000#32 else 0#32))
      (f.mask ||| (if f.exclusivity = .both then 0#32 else 0xC0000000#32))
    exec (.filterApply filters sysOk errno) s = .next
      (if s.mode = .closed then s.ended [] (.raised .closedError)
      else if 512 < filters.length then s.ended [] (.raised .configurationError)
      else if sysOk = false then s.ended [] (.raised (.systemCallError errno))
      else
        { s.ended [] (.value (.bytes (raw.flatMap fun p => w32 s.params.wordOrder p.id ++ w32 s.params.wordOrder p.mask)))
          with cfg := { s.cfg with filters := raw, filtersSet := true } })

/-- FILTER_READ: its errors in order, and the stored list decoded (R160). Before the first FILTER_APPLY the list is free,
of at most 512 pairs (10_state.md R42; log entry 3). -/
def Obligations.FilterReadResult : Prop :=
  ∀ (sysOk : Bool) (errno : Nat) (s : State),
    ∃ raw : List RawFilter,
      (s.cfg.filtersSet = true → raw = s.cfg.filters) ∧ (s.cfg.filtersSet = false → raw.length ≤ 512) ∧
      exec (.filterRead sysOk errno) s = .next
        (if s.mode = .closed then s.ended [] (.raised .closedError)
        else if sysOk = false then s.ended [] (.raised (.systemCallError errno))
        else s.ended [] (.value (.filters (raw.map filterDecode))))

/-- What was applied reads back (R162), and the image has eight bytes for each pair (20_memory.md R71). -/
def Obligations.FilterRoundTrip : Prop :=
  ∀ (filters : List Filter) (e1 e2 : Nat) (s : State), s.mode ≠ .closed → filters.length ≤ 512 →
    (∀ f ∈ filters, f.id.toNat < 2 ^ 29 ∧ f.mask.toNat < 2 ^ 29) →
    ∃ t image, exec (.filterApply filters true e1) s = .next t ∧ t.result = .value (.bytes image) ∧
      image.length = 8 * filters.length ∧
      exec (.filterRead true e2) t = .next (t.ended [] (.value (.filters filters)))

/-- The rows of group FLTENT answer the filter a raw pair stands for, bit by bit as R161 says (the rows' meaning is the
model's choice: log entry 11). -/
def Obligations.FilterRowsRead : Prop :=
  ∀ (p : RawFilter) (s : State), ∀ i ∈ [Instr.fltIdExtended p, Instr.fltIdInvert p, Instr.fltMaskTyped p],
    ∃ f, exec i s = .next (s.ended [] (.value (.filters [f]))) ∧
      f.invert = p.id.getLsbD 29 ∧
      f.exclusivity =
        (if p.mask.getLsbD 31 && p.mask.getLsbD 30 then (if p.id.getLsbD 31 then .extended else .standard) else .both) ∧
      ∀ j, j < 32 →
        f.id.getLsbD j =
          (p.id.getLsbD j && decide (j ≠ 29) && !(decide (j = 31) && p.mask.getLsbD 31 && p.mask.getLsbD 30)) ∧
        f.mask.getLsbD j = (p.mask.getLsbD j && !(decide (30 ≤ j) && p.mask.getLsbD 31 && p.mask.getLsbD 30))

/-! ### Error decoder (42_error_decoder.md) -/

/-- ERR_DECODE: the classes, and at most one detail group, in fixed priority (R171, R174, R176, R177). Which of two names
with one value a table gives is left open, as the spec leaves it (log entry 32). -/
def Obligations.ErrorReportRule : Prop :=
  ∀ (f : CanFrame) (s : State), f.error = true →
    let t := s.params.errTable
    ∃ r, exec (.errDecode f) s = .next (s.ended [] (.value (.report r))) ∧
      (∀ k, k ∈ r.classes ↔ ∃ v, (k, v) ∈ t.cls ∧ v &&& f.id ≠ 0) ∧
      (let lost := ErrorClass.lostArbitration ∈ r.classes
       let controller := ¬lost ∧ ErrorClass.controllerError ∈ r.classes
       let protocol := ¬lost ∧ ¬controller ∧ ErrorClass.protocolViolation ∈ r.classes
       let transceiver := ¬lost ∧ ¬controller ∧ ¬protocol ∧ ErrorClass.transceiverStatus ∈ r.classes
       (lost → r.arbitrationPosition = some (f.payload.getD t.offArbitration.val 0)) ∧
       (¬lost → r.arbitrationPosition = none) ∧
       (∀ k, k ∈ r.controllerFlags ↔
         controller ∧ ∃ v, (k, v) ∈ t.controller ∧ v &&& f.payload.getD t.offController.val 0 ≠ 0) ∧
       (∀ k, k ∈ r.protocolType ↔
         protocol ∧ ∃ v, (k, v) ∈ t.protocolType ∧ v &&& f.payload.getD t.offProtocolType.val 0 ≠ 0) ∧
       (let b := f.payload.getD t.offProtocolLocation.val 0
        (protocol → ∃ k, r.protocolLocation = some k ∧
          ((k, b) ∈ t.protocolLocation ∨ k = .unknown ∧ ∀ j, (j, b) ∉ t.protocolLocation))) ∧
       (¬protocol → r.protocolLocation = none) ∧
       (let b := f.payload.getD t.offTransceiver.val 0
        (transceiver → ∃ k, r.transceiverStatus = some k ∧
          ((k, b) ∈ t.transceiver ∨ k = .unknown ∧ ∀ j, (j, b) ∉ t.transceiver))) ∧
       (¬transceiver → r.transceiverStatus = none))

/-- An error frame with only the lost-arbitration bit set, under the table of R172 (R181). -/
def Obligations.LostArbitrationReport : Prop :=
  ∀ (f : CanFrame) (s : State), s.params.errTable = errTableT0 → f.error = true → f.id = 2 →
    exec (.errDecode f) s = .next
      (s.ended [] (.value (.report ⟨[.lostArbitration], some (f.payload.getD 0 0), [], [], none, none⟩)))

/-- ERR_DECODE of a frame whose error flag is clear is refused (R180). -/
def Obligations.ErrDecodeRefused : Prop :=
  ∀ (f : CanFrame) (s : State), f.error = false → exec (.errDecode f) s = .refused .notAnErrorFrame

/-! ### Port (43_port.md) -/

/-- BIND: its errors in order, and the mode (R192). -/
def Obligations.BindResult : Prop :=
  ∀ (name : Bytes) (res : BindRes) (s : State),
    exec (.bind name res) s = .next
      (if s.mode = .closed then s.ended [] (.raised .closedError)
      else if s.mode = .bound then s.ended [] (.raised .alreadyBoundError)
      else if ¬(1 ≤ name.length ∧ name.length ≤ 15 ∧ ∀ b ∈ name, 1 ≤ b.toNat ∧ b.toNat ≤ 0x7F) then
        s.ended [] (.raised .validationError)
      else
        match res with
        | .notFound => s.ended [] (.raised .notFoundError)
        | .sysFail errno => s.ended [] (.raised (.systemCallError errno))
        | .ok => { s.ended [] .noValue with mode := .bound })

/-- CLOSE: every session ended with GenericError, in ascending order, then the mode (R194). -/
def Obligations.CloseResult : Prop :=
  ∀ s : State, s.slots.length = s.params.nCh →
    exec .close s = .next
      (if s.mode = .closed then s.ended [] (.raised .closedError)
      else
        { s.ended
            ((List.range s.params.nCh).filterMap fun c =>
              if (s.slot c).valid then some (s.delivery c .genericError) else none)
            .noValue
          with mode := .closed, slots := s.slots.map Slot.freed })

/-- The legal values of the ten registers (10_state.md R22, R23). That an error mask is a set of the table's class bits
is log entry 30. -/
def Obligations.LegalValues : Prop :=
  ∀ (p : Params) (v : Nat),
    (regLegal p .rxCapacity v = true ↔ v ≤ 4294967295) ∧
    (regLegal p .nBs v = true ↔ v < 2 ^ 64) ∧
    (regLegal p .nCr v = true ↔ v < 2 ^ 64) ∧
    (regLegal p .wftMax v = true ↔ v ≤ 255) ∧
    (regLegal p .localStmin v = true ↔ v ≤ 255) ∧
    (regLegal p .padEn v = true ↔ v = 0 ∨ v = 1) ∧
    (regLegal p .padByte v = true ↔ v ≤ 255) ∧
    (regLegal p .errMask v = true ↔
      v < 2 ^ 32 ∧ ∀ j, v.testBit j = true → ∃ k w, (k, w) ∈ p.errTable.cls ∧ w.getLsbD j = true) ∧
    (regLegal p .loopback v = true ↔ v = 0 ∨ v = 1) ∧
    (regLegal p .recvOwn v = true ↔ v = 0 ∨ v = 1)

/-- CFG_WRITE of each register, by its selector (30_encoding.md R117): its errors in order, else that one register and no
other (R198). -/
def Obligations.CfgWriteResult : Prop :=
  ∀ (reg : BitVec 4) (r : Reg) (v : Nat) (sysOk : Bool) (errno : Nat) (s : State),
    (reg, r) ∈ [((0 : BitVec 4), Reg.rxCapacity), (1, .nBs), (2, .nCr), (3, .wftMax), (4, .localStmin), (5, .padEn),
      (6, .padByte), (7, .errMask), (8, .loopback), (9, .recvOwn)] →
    ∃ t, exec (.cfgWrite reg v sysOk errno) s = .next t ∧
      if s.mode = .closed then t = s.ended [] (.raised .closedError)
      else if regLegal s.params r v = false then t = s.ended [] (.raised .validationError)
      else if (r = .errMask ∨ r = .loopback ∨ r = .recvOwn) ∧ sysOk = false then
        t = s.ended [] (.raised (.systemCallError errno))
      else
        t = { s.ended [] .noValue with cfg := t.cfg } ∧
        (∀ q, regRead t.cfg q = if q = r then v else regRead s.cfg q) ∧
        t.cfg.filters = s.cfg.filters ∧ t.cfg.filtersSet = s.cfg.filtersSet

/-- CFG_READ of each register, by its selector (30_encoding.md R117): its errors in order, else the register's value
(R197). A pass-through register that has not been written reads as some value (10_state.md R42; log entry 3). -/
def Obligations.CfgReadResult : Prop :=
  ∀ (reg : BitVec 4) (r : Reg) (sysOk : Bool) (errno : Nat) (s : State),
    (reg, r) ∈ [((0 : BitVec 4), Reg.rxCapacity), (1, .nBs), (2, .nCr), (3, .wftMax), (4, .localStmin), (5, .padEn),
      (6, .padByte), (7, .errMask), (8, .loopback), (9, .recvOwn)] →
    ∃ v,
      exec (.cfgRead reg sysOk errno) s = .next
        (if s.mode = .closed then s.ended [] (.raised .closedError)
        else if (r = .errMask ∨ r = .loopback ∨ r = .recvOwn) ∧ sysOk = false then
          s.ended [] (.raised (.systemCallError errno))
        else s.ended [] (.value (.value v))) ∧
      match r with
      | .rxCapacity => v = s.cfg.rxCapacity.toNat
      | .nBs => v = s.cfg.nBs.toNat
      | .nCr => v = s.cfg.nCr.toNat
      | .wftMax => v = s.cfg.wftMax.toNat
      | .localStmin => v = s.cfg.localStmin.toNat
      | .padEn => v = s.cfg.padEn.toNat
      | .padByte => v = s.cfg.padByte.toNat
      | .errMask => v < 2 ^ 32 ∧ (s.cfg.errMaskSet = true → v = s.cfg.errMask.toNat)
      | .loopback => v < 2 ∧ (s.cfg.loopbackSet = true → v = s.cfg.loopback.toNat)
      | .recvOwn => v < 2 ∧ (s.cfg.recvOwnSet = true → v = s.cfg.recvOwn.toNat)

/-- The ten rows of group REG that name a register: the errors of a read and of a write in order, else a read gives the
register's value and a write writes that one register (the rows' meaning is the model's choice: log entry 8; a
pass-through register not yet written reads as a free value: log entry 3). -/
def Obligations.RegRowsResult : Prop :=
  ∀ (sysOk : Bool) (errno : Nat) (s : State),
    ∀ k ∈ [(Instr.regRxCapacity, Reg.rxCapacity), (Instr.regNBs, Reg.nBs), (Instr.regNCr, Reg.nCr),
        (Instr.regWftMax, Reg.wftMax), (Instr.regLocalStmin, Reg.localStmin), (Instr.regPadEn, Reg.padEn),
        (Instr.regPadByte, Reg.padByte), (Instr.regErrMask, Reg.errMask), (Instr.regLoopback, Reg.loopback),
        (Instr.regRecvOwn, Reg.recvOwn)],
      let refused := (k.2 = .errMask ∨ k.2 = .loopback ∨ k.2 = .recvOwn) ∧ sysOk = false
      exec (k.1 (.read sysOk errno)) s = .next
        (if s.mode = .closed then s.ended [] (.raised .closedError)
        else if refused then s.ended [] (.raised (.systemCallError errno))
        else s.ended [] (.value (.value (regRead s.cfg k.2)))) ∧
      ∀ v, ∃ t, exec (k.1 (.write v sysOk errno)) s = .next t ∧
        if s.mode = .closed then t = s.ended [] (.raised .closedError)
        else if regLegal s.params k.2 v = false then t = s.ended [] (.raised .validationError)
        else if refused then t = s.ended [] (.raised (.systemCallError errno))
        else
          t = { s.ended [] .noValue with cfg := t.cfg } ∧
          (∀ q, regRead t.cfg q = if q = k.2 then v else regRead s.cfg q) ∧
          t.cfg.filters = s.cfg.filters ∧ t.cfg.filtersSet = s.cfg.filtersSet

/-- The reserved selectors are refused, in every mode (30_encoding.md R116, R200). -/
def Obligations.ReservedRefused : Prop :=
  ∀ (l1 : BitVec 1) (l2 : BitVec 2) (v errno : Nat) (sysOk : Bool) (s : State),
    exec (.opReserved12to15 l2) s = .refused (.reservedOperation (3#2 ++ l2)) ∧
    exec (.regReserved10to11 l1) s = .refused (.reservedRegister (5#3 ++ l1)) ∧
    exec (.regReserved12to15 l2) s = .refused (.reservedRegister (3#2 ++ l2)) ∧
    ∀ reg : BitVec 4, 10 ≤ reg.toNat →
      exec (.cfgWrite reg v sysOk errno) s = .refused (.reservedRegister reg) ∧
      exec (.cfgRead reg sysOk errno) s = .refused (.reservedRegister reg)

/-- The gate of the port mode (R190): a closed port refuses every port operation, an unbound one refuses traffic. That
the rows of groups REG, IMG, ERRFRM and NPDU stand for such an operation is the model's choice, log entries 8, 9 and 10.
-/
def Obligations.ModeGate : Prop :=
  ∀ (i : Instr) (s : State),
    (portOp i = true → s.mode = .closed → exec i s = .next (s.ended [] (.raised .closedError))) ∧
    (∀ rx payload peer, (inboundArgs i = some rx ∨ i = .send payload peer rx) → s.mode = .unbound →
      exec i s = .next (s.ended [] (.raised (.systemCallError rx.errno))))

/-- `mode` is written only by BIND and CLOSE, and only along the transitions of 60_exceptions.md R329. -/
def Obligations.ModeChanges : Prop :=
  ∀ (i : Instr) (s t : State), exec i s = .next t →
    t.mode = s.mode ∨
    (s.mode = .unbound ∧ t.mode = .bound ∧ ∃ name, i = .bind name .ok) ∨
    (s.mode ≠ .closed ∧ t.mode = .closed ∧ i = .close)

/-- Only CFG_WRITE, FILTER_APPLY and the rows of group REG write a configuration register; no operation writes a
parameter or an issued request, or keeps an outcome of the environment. -/
def Obligations.ConfigChanges : Prop :=
  ∀ (i : Instr) (s t : State), exec i s = .next t →
    t.params = s.params ∧ t.pending = s.pending ∧ t.txo = [] ∧
    (t.cfg = s.cfg ∨ (regRow i).isSome = true ∨ (∃ reg v sysOk errno, i = .cfgWrite reg v sysOk errno) ∨
      ∃ filters sysOk errno, i = .filterApply filters sysOk errno)

/-- The operations without a time touch no session and emit nothing, CLOSE apart (46_tp_timers.md R303, which the spec
marks as derived); the rows of groups REG and FLTENT count among them by log entries 8 and 11. -/
def Obligations.UntimedLeaveSessions : Prop :=
  ∀ (i : Instr) (s t : State), exec i s = .next t → inboundArgs i = none → i ≠ .close →
    (∀ payload peer rx, i ≠ .send payload peer rx) → (∀ now txo, i ≠ .tick now txo) →
    t.slots = s.slots ∧ t.actions = []

/-- A raised error changes no mode and no register and touches no session, but for the expiry pass of an inbound unit
that then raised FormatError (60_exceptions.md R314). -/
def Obligations.RaisedErrorLeaves : Prop :=
  ∀ (i : Instr) (s t : State) (k : ErrorKind), exec i s = .next t → t.result = .raised k →
    t.mode = s.mode ∧ t.cfg = s.cfg ∧
    ((t.slots = s.slots ∧ t.actions = []) ∨
      (k = .formatError ∧ ∃ rx, inboundArgs i = some rx ∧ t.slots = (s.served rx.now rx.txo).slots ∧
        t.actions = (s.served rx.now rx.txo).actions))

/-! ### Timers (46_tp_timers.md) -/

/-- A TICK at which nothing has expired changes nothing and emits nothing, in any mode (R294, R304). -/
def Obligations.TickQuiet : Prop :=
  ∀ (now : BitVec 64) (txo : List TxOutcome) (s : State), s.NoneExpired now →
    exec (.tick now txo) s = .next (s.ended [] .noValue)

/-- TICK always completes, raises nothing, and writes only slots whose deadline has passed (R293, R304). -/
def Obligations.TickOnlyExpired : Prop :=
  ∀ (now : BitVec 64) (txo : List TxOutcome) (s : State),
    ∃ t, exec (.tick now txo) s = .next t ∧ t.result = .noValue ∧ t.slots.length = s.slots.length ∧
      ∀ c, (s.slot c).expired now.toNat = false → t.slot c = s.slot c

/-- Expired Bs and Cr timers end their sessions, in ascending order, each with its code (R293, R295). -/
def Obligations.TickTimeouts : Prop :=
  ∀ (now : BitVec 64) (txo : List TxOutcome) (s : State), s.slots.length = s.params.nCh →
    (∀ c, (s.slot c).expired now.toNat = true → (s.slot c).timer = .bs ∨ (s.slot c).timer = .cr) →
    exec (.tick now txo) s = .next
      { s.ended
          ((List.range s.params.nCh).filterMap fun c =>
            if (s.slot c).expired now.toNat then
              some (s.delivery c (if (s.slot c).timer = .bs then .timeoutBs else .timeoutCr))
            else none)
          .noValue
        with slots := s.slots.map fun sl => if sl.expired now.toNat then sl.freed else sl }

/-- The whole expiry pass, whichever slots have expired (R293, R295): each of them fires once, in ascending order, and the
actions come in that order. An expired St timer sends the next ConsecutiveFrame (45_tp_send.md R272, R276, R277), each such
slot taking the next answer of the environment (43_port.md R208). -/
def Obligations.TickSendsNext : Prop :=
  ∀ (now : BitVec 64) (txo : List TxOutcome) (s : State), s.Inv →
    exec (.tick now txo) s = .next
      { s.ended ((List.range s.params.nCh).flatMap fun c => (s.fired now.toNat txo c).1) .noValue
        with slots := (List.range s.params.nCh).map fun c => (s.fired now.toNat txo c).2 }

/-- A ConsecutiveFrame that cannot be transmitted ends its session, after an expired St timer and after a ContinueToSend
(45_tp_send.md R277, 43_port.md R209). That the row NPDU_FC_CTS is the frame's arrival is the model's choice, log entry
10. -/
def Obligations.ConsecutiveFrameLost : Prop :=
  ∀ (code : ResultCode) (o : TxOutcome),
    (o = .fail ∧ code = .genericError) ∨ (o = .timeout ∧ code = .timeoutA) →
    (∀ (now : BitVec 64) (txo : List TxOutcome) (c : Nat) (s : State), s.Inv → c < s.params.nCh →
      (s.slot c).expired now.toNat = true → (s.slot c).timer = .st →
      (∀ d, d ≠ c → (s.slot d).expired now.toNat = false) → txo.headD .done = o →
      exec (.tick now txo) s = .next
        { s.ended [.sendDone (s.peer c) code] .noValue with slots := s.slots.set c (s.slot c).freed }) ∧
    (∀ (c : Nat) (bs st : Byte) (tail : Bytes) (rx : RxArgs) (s : State),
      let e := s.served rx.now rx.txo
      s.mode = .bound → s.Inv → c < s.params.nCh → (s.channel c).aoff + 3 + tail.length ≤ 8 →
      (e.slot c).valid = true → (e.slot c).state = .awaitingFlowControl → e.nextTx = o →
      exec (.npduFcCts c (bs :: st :: tail) rx) s = .next
        (e.andThenSlot c ((e.slot c).continued bs st).freed [.sendDone (s.peer c) code]))

/-! ### Reception (44_tp_receive.md) -/

/-- A SingleFrame is delivered; a reception it interrupts is aborted first (R226). That the row is the frame's arrival,
with the mode gate and the expiry pass of RX_RAW before it, is the model's choice, log entry 10. -/
def Obligations.SingleFrameDelivered : Prop :=
  ∀ (c : Nat) (dl : BitVec 4) (rest : Bytes) (rx : RxArgs) (s : State), s.mode = .bound → c < s.params.nCh →
    (s.channel c).aoff + 1 + rest.length ≤ 8 → dl.toNat ≤ 7 - (s.channel c).aoff → dl.toNat ≤ rest.length →
    exec (.npduSf c dl rest rx) s = .next ((s.served rx.now rx.txo).singleFrame c (rest.take dl.toNat))

/-- A FirstFrame that fits starts a reception, a reception it interrupts being aborted first; one FlowControl goes out
and the Cr timer is armed (R228, R230, R232, R233). That the row is the frame's arrival, with the mode gate and the
expiry pass of RX_RAW before it, is the model's choice, log entry 10. -/
def Obligations.FirstFrameStarts : Prop :=
  ∀ (i : Instr) (c total : Nat) (data : Bytes) (rx : RxArgs) (s : State),
    let e := s.served rx.now rx.txo
    FirstFrame s.params i c total data rx → s.mode = .bound → c < s.params.nCh → s.slots.length = s.params.nCh →
    (s.peer c).taType = .physical → total ≤ s.cfg.rxCapacity.toNat →
    ¬((e.slot c).valid = true ∧ (e.slot c).direction = .sending) → e.nextTx = .done →
    exec i s = .next
      (e.andThenSlot c
        ⟨true, .receiving, .accumulatingFF, total, data.length, 1, rx.now.toNat + s.cfg.nCr.toNat, 0, .cr, 0, 0, 0, data⟩
        ((if (e.slot c).valid then [e.delivery c .unexpectedPdu] else []) ++
          [.txFrame (s.frameTo c ((s.channel c).extBytes ++ [0x30, 0x00, s.cfg.localStmin]))]))

/-- A FirstFrame that starts nothing: on a functional channel, beyond the capacity, or to a sending session (R229, R231,
R230). That the row is the frame's arrival, with the mode gate and the expiry pass of RX_RAW before it, is log entry 10.
-/
def Obligations.FirstFrameNotStarted : Prop :=
  ∀ (i : Instr) (c total : Nat) (data : Bytes) (rx : RxArgs) (s : State),
    let e := s.served rx.now rx.txo
    FirstFrame s.params i c total data rx → s.mode = .bound → c < s.params.nCh →
    ((s.peer c).taType = .functional → exec i s = .next (e.andThen [])) ∧
    ((s.peer c).taType = .physical → s.cfg.rxCapacity.toNat < total →
      exec i s = .next (e.andThen [.rxReject (s.peer c) .bufferOverflow])) ∧
    ((s.peer c).taType = .physical → total ≤ s.cfg.rxCapacity.toNat → (e.slot c).valid = true →
      (e.slot c).direction = .sending → exec i s = .next (e.andThen [e.unexpected c]))

/-- A FirstFrame whose FlowControl cannot be transmitted: the session just created is aborted with the first chunk
(R234). That the row is the frame's arrival, with the mode gate and the expiry pass of RX_RAW before it, is the model's
choice, log entry 10. -/
def Obligations.FirstFrameAnswerLost : Prop :=
  ∀ (i : Instr) (c total : Nat) (data : Bytes) (rx : RxArgs) (s : State) (code : ResultCode),
    let e := s.served rx.now rx.txo
    FirstFrame s.params i c total data rx → s.mode = .bound → c < s.params.nCh → s.slots.length = s.params.nCh →
    (s.peer c).taType = .physical → total ≤ s.cfg.rxCapacity.toNat →
    ¬((e.slot c).valid = true ∧ (e.slot c).direction = .sending) →
    (e.nextTx = .fail ∧ code = .genericError) ∨ (e.nextTx = .timeout ∧ code = .timeoutA) →
    ∃ t, exec i s = .next t ∧ (t.slot c).valid = false ∧ t = e.andThenSlot c (t.slot c)
      ((if (e.slot c).valid then [e.delivery c .unexpectedPdu] else []) ++ [.onMessage data (s.peer c) code])

/-- A ConsecutiveFrame: reported, aborting, ignored, completing or stored (R240). That the row is the frame's arrival,
with the mode gate and the expiry pass of RX_RAW before it, is the model's choice, log entry 10. -/
def Obligations.ConsecutiveFrameHandled : Prop :=
  ∀ (c : Nat) (sn : BitVec 4) (rest : Bytes) (rx : RxArgs) (s : State),
    let e := s.served rx.now rx.txo
    let sl := e.slot c
    let n := e.chunk c sl
    s.Inv → s.mode = .bound → c < s.params.nCh → rest ≠ [] → (s.channel c).aoff + 1 + rest.length ≤ 8 →
    exec (.npduCf c sn rest rx) s = .next
      (if sl.valid = false ∨ sl.state ≠ .accumulatingFF then e.andThen [e.unexpected c]
      else if sn ≠ sl.expectedSequenceNumber then e.andThenSlot c sl.freed [e.delivery c .wrongSequenceNumber]
      else if rest.length < n then e.andThen []
      else if sl.bytesTransferred + n = sl.totalLength then
        e.andThenSlot c
          { sl with valid := false, buf := sl.buf ++ rest.take n, bytesTransferred := sl.totalLength }
          [.onMessage (sl.buf ++ rest.take n) (s.peer c) .ok]
      else
        e.andThenSlot c
          { sl with
            buf := sl.buf ++ rest.take n
            bytesTransferred := sl.bytesTransferred + n
            expectedSequenceNumber := sl.expectedSequenceNumber + 1
            timer := .cr
            deadline := rx.now.toNat + s.cfg.nCr.toNat }
          [])

/-- Frames of an unknown PCI type are reported in every state of the slot (R248). That the row is the frame's arrival,
with the mode gate and the expiry pass of RX_RAW before it, is the model's choice, log entry 10. -/
def Obligations.UnknownReported : Prop :=
  ∀ (c : Nat) (l6 : BitVec 6) (l7 : BitVec 7) (rest : Bytes) (rx : RxArgs) (s : State),
    s.mode = .bound → c < s.params.nCh → (s.channel c).aoff + 1 + rest.length ≤ 8 →
    ∀ i ∈ [Instr.npduUnknown4to7 c l6 rest rx, Instr.npduUnknown8toF c l7 rest rx],
      exec i s = .next ((s.served rx.now rx.txo).andThen [s.unexpected c])

/-- A frame that does not parse is ignored in every state (R225, 30_encoding.md R106). That the row is the frame's
arrival, with the mode gate and the expiry pass of RX_RAW before it, is the model's choice, log entry 10. -/
def Obligations.InvalidIgnored : Prop :=
  ∀ (c : Nat) (rest : Bytes) (rx : RxArgs) (s : State),
    let a := (s.channel c).aoff
    let ignored (i : Instr) := exec i s = .next ((s.served rx.now rx.txo).andThen [])
    s.mode = .bound → c < s.params.nCh →
    (∀ dl : BitVec 4, a + 1 + rest.length ≤ 8 → 7 - a < dl.toNat ∨ rest.length < dl.toNat →
      ignored (.npduSf c dl rest rx)) ∧
    (∀ len : BitVec 12, a + 2 + rest.length ≤ 8 → a + 2 + rest.length < 8 ∨ len.toNat ≤ 7 - a →
      ignored (.npduFf12 c len rest rx)) ∧
    (a + 2 + rest.length ≤ 8 →
      a + 2 + rest.length < 8 ∨ (rest.getD 0 0 = 0 ∧ rest.getD 1 0 = 0 ∧ (rest.getD 2 0).toNat < 16) →
      ignored (.npduFf32 c rest rx)) ∧
    (∀ sn, rest = [] → ignored (.npduCf c sn rest rx)) ∧
    (∀ (l2 : BitVec 2) (l3 : BitVec 3), rest.length < 2 →
      ignored (.npduFcCts c rest rx) ∧ ignored (.npduFcWait c rest rx) ∧ ignored (.npduFcOverflow c rest rx) ∧
      ignored (.npduFcReserved3 c rest rx) ∧ ignored (.npduFcReserved4to7 c l2 rest rx) ∧
      ignored (.npduFcReserved8toF c l3 rest rx))

/-! ### FlowControl (45_tp_send.md) -/

/-- A FlowControl that no session awaits is reported, whatever its flow status (44_tp_receive.md R247). That the row is
the frame's arrival, with the mode gate and the expiry pass of RX_RAW before it, is the model's choice, log entry 10. -/
def Obligations.FlowControlUnexpected : Prop :=
  ∀ (c : Nat) (rest : Bytes) (l2 : BitVec 2) (l3 : BitVec 3) (rx : RxArgs) (s : State),
    let e := s.served rx.now rx.txo
    s.mode = .bound → c < s.params.nCh → 2 ≤ rest.length → (s.channel c).aoff + 1 + rest.length ≤ 8 →
    (e.slot c).valid = false ∨ (e.slot c).state ≠ .awaitingFlowControl →
    ∀ i ∈ [Instr.npduFcCts c rest rx, Instr.npduFcWait c rest rx, Instr.npduFcOverflow c rest rx,
        Instr.npduFcReserved3 c rest rx, Instr.npduFcReserved4to7 c l2 rest rx, Instr.npduFcReserved8toF c l3 rest rx],
      exec i s = .next (e.andThen [s.unexpected c])

/-- A ContinueToSend: its values are stored and the first ConsecutiveFrame of the block goes out in the same operation
(R265, R266, R267, R276). The separation time is the table of 30_encoding.md R110, for every byte (`Slot.continued`).
That the row is the frame's arrival, with the mode gate and the expiry pass of RX_RAW before it, is the model's choice,
log entry 10. -/
def Obligations.ContinueToSend : Prop :=
  ∀ (c : Nat) (bs st : Byte) (tail : Bytes) (rx : RxArgs) (s : State),
    let e := s.served rx.now rx.txo
    let sl := (e.slot c).continued bs st
    s.Inv → s.mode = .bound → c < s.params.nCh → (s.channel c).aoff + 3 + tail.length ≤ 8 →
    (e.slot c).valid = true → (e.slot c).state = .awaitingFlowControl → e.nextTx = .done →
    exec (.npduFcCts c (bs :: st :: tail) rx) s = .next
      (e.andThenSlot c (e.cfSent c sl rx.now.toNat) (e.cfActions c sl))

/-- A Wait: tolerated and the Bs timer armed afresh, or past CFG.WFT_MAX and the session aborted (R268). That the row is
the frame's arrival, with the mode gate and the expiry pass of RX_RAW before it, is the model's choice, log entry 10. -/
def Obligations.WaitHandled : Prop :=
  ∀ (c : Nat) (rest : Bytes) (rx : RxArgs) (s : State),
    let e := s.served rx.now rx.txo
    let sl := e.slot c
    let count := sl.waitFlowControlCount + 1
    s.Inv → s.mode = .bound → c < s.params.nCh → 2 ≤ rest.length → (s.channel c).aoff + 1 + rest.length ≤ 8 →
    sl.valid = true → sl.state = .awaitingFlowControl →
    exec (.npduFcWait c rest rx) s = .next
      (if s.cfg.wftMax.toNat < count then
        e.andThenSlot c { sl with waitFlowControlCount := count, valid := false }
          [.sendDone (s.peer c) .flowControlOverrun]
      else
        e.andThenSlot c
          { sl with
            waitFlowControlCount := count, timer := .bs, deadline := rx.now.toNat + s.cfg.nBs.toNat }
          [])

/-- An Overflow and a reserved flow status abort the awaiting session, each with its code (R269, R270). That the row is
the frame's arrival, with the mode gate and the expiry pass of RX_RAW before it, is the model's choice, log entry 10. -/
def Obligations.FlowControlAborts : Prop :=
  ∀ (c : Nat) (rest : Bytes) (l2 : BitVec 2) (l3 : BitVec 3) (rx : RxArgs) (s : State),
    let e := s.served rx.now rx.txo
    s.Inv → s.mode = .bound → c < s.params.nCh → 2 ≤ rest.length → (s.channel c).aoff + 1 + rest.length ≤ 8 →
    (e.slot c).valid = true → (e.slot c).state = .awaitingFlowControl →
    ∀ k ∈ [(Instr.npduFcOverflow c rest rx, ResultCode.bufferOverflow),
        (Instr.npduFcReserved3 c rest rx, ResultCode.invalidFlowStatus),
        (Instr.npduFcReserved4to7 c l2 rest rx, ResultCode.invalidFlowStatus),
        (Instr.npduFcReserved8toF c l3 rest rx, ResultCode.invalidFlowStatus)],
      exec k.1 s = .next (e.andThenSlot c (e.slot c).freed [.sendDone (s.peer c) k.2])

/-! ### Inbound units (43_port.md R205, 30_encoding.md R89, R123) -/

/-- The rows of data and remote frames: a remote frame is ignored, a data frame no channel matches is ignored, a data
frame that is a SingleFrame of a channel is delivered (44_tp_receive.md R222, R223, R226; log entry 9). The other data
frames are what `RxRawIsItsRow` and `NpduRowIsItsFrame` say. -/
def Obligations.FrameRows : Prop :=
  ∀ (b : ImgBody) (rx : RxArgs) (s : State), s.mode = .bound → b.len.toNat ≤ 8 →
    let e := s.served rx.now rx.txo
    (∀ i ∈ [Instr.frameStdRemote b rx, Instr.frameExtRemote b rx], exec i s = .next (e.andThen [])) ∧
    ∀ k ∈ [(Instr.frameStdData b rx, (b.word.extractLsb' 0 11).setWidth 29, false),
        (Instr.frameExtData b rx, b.word, true)],
      let f : CanFrame := ⟨k.2.1, k.2.2, false, false, b.len.toNat, b.payload⟩
      (s.params.lookup f = none → exec k.1 s = .next (e.andThen [])) ∧
      ∀ c data, s.params.lookup f = some c → pduDecode (s.channel c) f = .sf data →
        exec k.1 s = .next (e.singleFrame c data)

/-- The rows of error frames hand the report ERR_DECODE gives to the consumer and touch no session (R206); under the
table of 42_error_decoder.md R172 the report has the row's class. -/
def Obligations.ErrorFramesReported : Prop :=
  ∀ (eff rtr : Bool) (b : ImgBody) (rx : RxArgs) (s : State), s.mode = .bound → b.len.toNat ≤ 8 →
    ∀ k ∈ [(Instr.frameError eff rtr b rx, (none : Option ErrorClass)),
        (Instr.errClassTimeout eff rtr b rx, some .timeout),
        (Instr.errClassLostArbitration eff rtr b rx, some .lostArbitration),
        (Instr.errClassControllerError eff rtr b rx, some .controllerError),
        (Instr.errClassProtocolViolation eff rtr b rx, some .protocolViolation),
        (Instr.errClassTransceiverStatus eff rtr b rx, some .transceiverStatus),
        (Instr.errClassNoAck eff rtr b rx, some .noAck),
        (Instr.errClassBusOff eff rtr b rx, some .busOff),
        (Instr.errClassBusError eff rtr b rx, some .busError),
        (Instr.errClassRestarted eff rtr b rx, some .restarted)],
      ∃ r, exec k.1 s = .next ((s.served rx.now rx.txo).andThen [.onErrorFrame r]) ∧
        exec (.errDecode ⟨b.word, eff, rtr, true, b.len.toNat, b.payload⟩) s =
          .next (s.ended [] (.value (.report r))) ∧
        (s.params.errTable = errTableT0 → k.1.wellFormed = true → ∀ cls, k.2 = some cls → cls ∈ r.classes)

/-- A unit that is no frame raises FormatError after the expiry pass, whose effects stay (R205, R207): RX_RAW of a unit of
another size or with a length byte over 8, the rows of groups IMG and ERRFRM with such a length byte (log entry 9), the
rows of group NPDU that would have more than 8 payload bytes (log entry 10). -/
def Obligations.FormatErrorAfterExpiry : Prop :=
  ∀ (bytes : Bytes) (b : ImgBody) (rx : RxArgs) (s : State), s.mode = .bound →
    let malformed (i : Instr) :=
      exec i s = .next { (s.served rx.now rx.txo).andThen [] with result := .raised .formatError }
    (bytes.length ≠ 16 ∨ 8 < (bytes.getD 4 0).toNat → malformed (.rxRaw bytes rx)) ∧
    (8 < b.len.toNat → ∀ eff rtr : Bool,
      ∀ i ∈ [Instr.frameStdData b rx, Instr.frameExtData b rx, Instr.frameStdRemote b rx, Instr.frameExtRemote b rx,
          Instr.frameError eff rtr b rx, Instr.errClassTimeout eff rtr b rx,
          Instr.errClassLostArbitration eff rtr b rx, Instr.errClassControllerError eff rtr b rx,
          Instr.errClassProtocolViolation eff rtr b rx, Instr.errClassTransceiverStatus eff rtr b rx,
          Instr.errClassNoAck eff rtr b rx, Instr.errClassBusOff eff rtr b rx, Instr.errClassBusError eff rtr b rx,
          Instr.errClassRestarted eff rtr b rx],
        malformed i) ∧
    ∀ (c : Nat) (rest : Bytes),
      (8 < (s.channel c).aoff + 1 + rest.length →
        ∀ (l4 : BitVec 4) (l2 : BitVec 2) (l3 : BitVec 3) (l6 : BitVec 6) (l7 : BitVec 7),
        ∀ i ∈ [Instr.npduSf c l4 rest rx, Instr.npduCf c l4 rest rx, Instr.npduFcCts c rest rx,
            Instr.npduFcWait c rest rx, Instr.npduFcOverflow c rest rx, Instr.npduFcReserved3 c rest rx,
            Instr.npduFcReserved4to7 c l2 rest rx, Instr.npduFcReserved8toF c l3 rest rx,
            Instr.npduUnknown4to7 c l6 rest rx, Instr.npduUnknown8toF c l7 rest rx],
          malformed i) ∧
      (8 < (s.channel c).aoff + 2 + rest.length →
        ∀ len, ∀ i ∈ [Instr.npduFf12 c len rest rx, Instr.npduFf32 c rest rx], malformed i)

/-- RX_RAW of a unit that is a frame: an error frame is reported, a remote frame and a frame no channel matches are
ignored, and of a channel's frames the SingleFrame is delivered, the invalid one ignored, the unknown one reported (R205,
R206, 44_tp_receive.md R222, R223, R225, R226, R248). -/
def Obligations.RxRawResult : Prop :=
  ∀ (bytes : Bytes) (rx : RxArgs) (s : State), s.mode = .bound → bytes.length = 16 → (bytes.getD 4 0).toNat ≤ 8 →
    let e := s.served rx.now rx.txo
    let f := unpack s.params.wordOrder bytes
    (f.error = true →
      exec (.rxRaw bytes rx) s = .next (e.andThen [.onErrorFrame (errorReport s.params.errTable f)])) ∧
    (f.error = false → f.remoteRequest = true ∨ s.params.lookup f = none →
      exec (.rxRaw bytes rx) s = .next (e.andThen [])) ∧
    ∀ c, f.error = false → f.remoteRequest = false → s.params.lookup f = some c →
      (pduDecode (s.channel c) f = .invalid → exec (.rxRaw bytes rx) s = .next (e.andThen [])) ∧
      (∀ data, pduDecode (s.channel c) f = .sf data → exec (.rxRaw bytes rx) s = .next (e.singleFrame c data)) ∧
      (∀ t, pduDecode (s.channel c) f = .unknownType t →
        exec (.rxRaw bytes rx) s = .next (e.andThen [s.unexpected c]))

/-- RX_RAW of a 16-byte unit does what the row of group IMG, or of group ERRFRM, that its bits decode to does. -/
def Obligations.RxRawIsItsRow : Prop :=
  ∀ (fmt : Format) (bytes : Bytes) (a : Args) (i : Instr) (s : State), fmt = .img ∨ fmt = .errfrm →
    decode s.params.wordOrder ⟨fmt, bytes, a⟩ = .ok i →
    exec (.rxRaw bytes ⟨a.now, a.txo, a.errno⟩) s = exec i s

/-- A row of group NPDU on a channel does what RX_RAW of the frame with those bytes from that channel's peer does
(30_encoding.md R95, R98, R106, 44_tp_receive.md R223). That the row is the frame's arrival, with the mode gate and the
expiry pass of RX_RAW before it, is the model's choice, log entry 10. -/
def Obligations.NpduRowIsItsFrame : Prop :=
  ∀ (code : Bytes) (a : Args) (i : Instr) (s : State), s.params.wf = true → a.channel < s.params.nCh →
    decode s.params.wordOrder ⟨.npdu, code, a⟩ = .ok i → (s.channel a.channel).aoff + code.length ≤ 8 →
    exec i s =
      exec
        (.rxRaw
          (encodeImage s.params.wordOrder ((s.channel a.channel).rxId.setWidth 32) (s.channel a.channel).rxExtended false
            ((s.channel a.channel).extBytes ++ code))
          ⟨a.now, a.txo, a.errno⟩)
        s

/-! ### SEND (45_tp_send.md) -/

/-- A payload of at most SF_MAX bytes goes as one SingleFrame, and no slot is read or written (R257). -/
def Obligations.SendSingle : Prop :=
  ∀ (payload : Bytes) (peer : PeerAddr) (c : Nat) (rx : RxArgs) (s : State),
    let e := s.served rx.now rx.txo
    s.mode = .bound → s.params.chan peer = some c → payload.length ≤ 7 - (s.channel c).aoff →
    exec (.send payload peer rx) s = .next
      (e.andThen
        (match e.nextTx with
        | .done =>
          [.txFrame (s.frameTo c ((s.channel c).extBytes ++ [BitVec.ofNat 8 payload.length] ++ payload)),
            .sendDone peer .ok]
        | .fail => [.sendDone peer .genericError]
        | .timeout => [.sendDone peer .timeoutA]))

/-- A longer payload to a free slot starts a session: the FirstFrame goes out and the Bs timer is armed (R256, R260,
R261), or it cannot go out and the session is aborted (R263). -/
def Obligations.SendStarts : Prop :=
  ∀ (payload : Bytes) (peer : PeerAddr) (c : Nat) (rx : RxArgs) (s : State),
    let e := s.served rx.now rx.txo
    let a := (s.channel c).aoff
    let total := payload.length
    let d := if total ≤ 4095 then 6 - a else 2 - a
    let lengthBytes : Bytes :=
      if total ≤ 4095 then [BitVec.ofNat 8 (0x10 + total / 256), BitVec.ofNat 8 (total % 256)]
      else [0x10, 0x00, BitVec.ofNat 8 (total / 2 ^ 24), BitVec.ofNat 8 (total / 2 ^ 16), BitVec.ofNat 8 (total / 2 ^ 8),
        BitVec.ofNat 8 total]
    s.mode = .bound → s.slots.length = s.params.nCh → s.params.chan peer = some c → 7 - a < total →
    total ≤ 4294967295 → peer.taType = .physical → (e.slot c).valid = false →
    (e.nextTx = .done →
      exec (.send payload peer rx) s = .next
        (e.andThenSlot c
          ⟨true, .sending, .awaitingFlowControl, total, d, 1, rx.now.toNat + s.cfg.nBs.toNat, 0, .bs, 0, 0, 0, payload⟩
          [.txFrame (s.frameTo c ((s.channel c).extBytes ++ lengthBytes ++ payload.take d))])) ∧
    (∀ code, (e.nextTx = .fail ∧ code = .genericError) ∨ (e.nextTx = .timeout ∧ code = .timeoutA) →
      ∃ t, exec (.send payload peer rx) s = .next t ∧ (t.slot c).valid = false ∧
        t = e.andThenSlot c (t.slot c) [.sendDone peer code])

/-- A multi-frame SEND to a peer whose slot is in use completes at once with GenericError and touches nothing (R259). -/
def Obligations.SendBusy : Prop :=
  ∀ (payload : Bytes) (peer : PeerAddr) (c : Nat) (rx : RxArgs) (s : State),
    let e := s.served rx.now rx.txo
    s.mode = .bound → s.params.chan peer = some c → 7 - (s.channel c).aoff < payload.length →
    payload.length ≤ 4294967295 → peer.taType = .physical → (e.slot c).valid = true →
    exec (.send payload peer rx) s = .next (e.andThen [.sendDone peer .genericError])

/-- The three inputs SEND refuses, before the expiry pass, so that nothing changes (R258). -/
def Obligations.SendRefused : Prop :=
  ∀ (payload : Bytes) (peer : PeerAddr) (rx : RxArgs) (s : State), s.mode = .bound →
    s.params.chan peer = none ∨ 4294967295 < payload.length ∨
      (∃ c, s.params.chan peer = some c ∧ 7 - (s.channel c).aoff < payload.length ∧ peer.taType = .functional) →
    exec (.send payload peer rx) s = .next (s.ended [] (.raised .validationError))

/-! ### The block as a whole -/

/-- An operation on one channel writes no other slot, but for those whose timer had expired (10_state.md R27). That the
row is the frame's arrival, with the mode gate and the expiry pass of RX_RAW before it, is the model's choice, log entry
10. -/
def Obligations.OtherSlots : Prop :=
  ∀ (i : Instr) (c : Nat) (rx : RxArgs) (s t : State), exec i s = .next t →
    (npduRow i = some (c, rx) ∨ ∃ payload peer, i = .send payload peer rx ∧ s.params.chan peer = some c) →
    ∀ d, d ≠ c → (s.slot d).expired rx.now.toNat = false → t.slot d = s.slot d

/-- A frame that comes at or after the deadline it was meant to beat finds no session: the timeout is delivered first,
then the frame is reported, a FlowControl whatever its flow status (60_exceptions.md R327; that a row of group NPDU is
such a frame's arrival is log entry 10). -/
def Obligations.TimeoutBeatsFrame : Prop :=
  ∀ (c : Nat) (rest : Bytes) (l2 : BitVec 2) (l3 : BitVec 3) (rx : RxArgs) (s : State), s.Inv → s.mode = .bound →
    c < s.params.nCh → (s.channel c).aoff + 1 + rest.length ≤ 8 → (s.slot c).expired rx.now.toNat = true →
    (∀ d, d ≠ c → (s.slot d).expired rx.now.toNat = false) →
    (∀ sn, rest ≠ [] → (s.slot c).state = .accumulatingFF →
      exec (.npduCf c sn rest rx) s = .next
        { s.ended [.onMessage (s.slot c).buf (s.peer c) .timeoutCr, s.unexpected c] .noValue
          with slots := s.slots.set c (s.slot c).freed }) ∧
    (2 ≤ rest.length → (s.slot c).state = .awaitingFlowControl →
      ∀ i ∈ [Instr.npduFcCts c rest rx, Instr.npduFcWait c rest rx, Instr.npduFcOverflow c rest rx,
          Instr.npduFcReserved3 c rest rx, Instr.npduFcReserved4to7 c l2 rest rx,
          Instr.npduFcReserved8toF c l3 rest rx],
        exec i s = .next
          { s.ended [.sendDone (s.peer c) .timeoutBs, s.unexpected c] .noValue
            with slots := s.slots.set c (s.slot c).freed })

/-- The reassembly law (44_tp_receive.md R250), from any point of a reception on: frames in sequence, each on time, all
but the last full and the last long enough, deliver the message with Ok and free the slot. That the row is the frame's
arrival, with the mode gate and the expiry pass of RX_RAW before it, is the model's choice, log entry 10. -/
def Obligations.Reassembly : Prop :=
  ∀ (c : Nat) (init : List (Bytes × RxArgs)) (last : Bytes × RxArgs) (s : State),
    let sl := s.slot c
    let n := 7 - (s.channel c).aoff
    s.Inv → c < s.params.nCh → sl.valid = true → sl.state = .accumulatingFF →
    (∀ f ∈ init, f.1.length = n) → 1 ≤ last.1.length → last.1.length ≤ n →
    sl.buf.length + init.length * n < sl.totalLength →
    sl.totalLength ≤ sl.buf.length + init.length * n + last.1.length →
    onTime s.cfg.nCr.toNat sl.deadline (init ++ [last]) = true →
    ∃ t, feed c sl.expectedSequenceNumber (init ++ [last]) s = some t ∧ (t.slot c).valid = false ∧
      t.actions.getLast? =
        some (.onMessage ((sl.buf ++ (init.map Prod.fst).flatten ++ last.1).take sl.totalLength) (s.peer c) .ok)

/-- The builders of transport frames and PduDecode agree (30_encoding.md R111): what the block sends on a channel, a
channel with the same extension byte reads back. Padding, when it is on, follows the data of a ConsecutiveFrame. -/
def Obligations.TransportRoundTrip : Prop :=
  ∀ (p : Params) (cfg : Cfg) (c : Nat), (p.channel c).wf = true →
    let ch := p.channel c
    let reads (b : Bytes) (n : Npdu) := ∃ f, decodeImage p.wordOrder (tpFrame p cfg c b) = some f ∧
      f.id = ch.txId ∧ f.extended = ch.txExtended ∧ f.remoteRequest = false ∧ f.error = false ∧ pduDecode ch f = n
    (∀ data, data.length ≤ ch.sfMax → reads (mkSF ch data) (.sf data)) ∧
    (∀ total data, ch.sfMax < total → total ≤ 4294967295 → data.length = ch.ffData total →
      reads (mkFF ch total data) (.ff total data)) ∧
    (∀ sn data, 1 ≤ data.length → data.length ≤ ch.cfData →
      reads (mkCF ch sn data)
        (.cf sn (if cfg.padEn then data ++ List.replicate (ch.cfData - data.length) cfg.padByte else data))) ∧
    (∀ fs bs st, reads (mkFC ch fs bs st) (.fc fs bs st))

/-- A step runs the operation that the oldest issued request decodes to, and takes the request away; with none issued the
block is at rest; a request that is no encoding is refused by name (log entry 4). -/
def Obligations.StepRuns : Prop :=
  ∀ s : State,
    (s.pending = [] → step s = .next s) ∧
    ∀ r rest, s.pending = r :: rest →
      (∀ i, decode s.params.wordOrder r = .ok i → step s = exec i { s with pending := rest }) ∧
      (∀ why, decode s.params.wordOrder r = .rejected why → step s = .refused (.badRequest why))

/-- A few words written out from the spec's encodings decode to the instruction they stand for. -/
def Obligations.WordsDecode : Prop :=
  decode .little ⟨.op, [0x06], {}⟩ = .ok .close ∧
  decode .little ⟨.reg, [0x03], { write := true, value := 5 }⟩ = .ok (.regWftMax (.write 5 false 0)) ∧
  decode .little ⟨.img, [0x23, 0x01, 0, 0, 3, 0, 0, 0, 0x11, 0x22, 0x33, 0, 0, 0, 0, 0], {}⟩ =
    .ok (.frameStdData ⟨0x123, 3, 0, 0, 0, [0x11, 0x22, 0x33, 0, 0, 0, 0, 0]⟩ ⟨0, [], 0⟩) ∧
  decode .big ⟨.errfrm, [0x20, 0, 0, 0x02, 8, 0, 0, 0, 5, 0, 0, 0, 0, 0, 0, 0], {}⟩ =
    .ok (.errClassLostArbitration false false ⟨2, 8, 0, 0, 0, [5, 0, 0, 0, 0, 0, 0, 0]⟩ ⟨0, [], 0⟩) ∧
  decode .little ⟨.npdu, [0x10, 0x14, 0, 1, 2, 3, 4, 5], {}⟩ = .ok (.npduFf12 0 20 [0, 1, 2, 3, 4, 5] ⟨0, [], 0⟩) ∧
  decode .little ⟨.fltent, [0x23, 0x01, 0, 0, 0xFF, 0x07, 0, 0xC0], {}⟩ = .ok (.fltMaskTyped ⟨0x123, 0xC00007FF⟩)

/-- What reset leaves, for every choice of the parameters (10_state.md R41, 70_reset_and_hazards.md R350): the values the
spec gives. -/
def Obligations.ResetValues : Prop :=
  ∀ p : Params,
    let s := State.resetWith p
    s.mode = .unbound ∧ s.slots.length = p.nCh ∧ (∀ c, (s.slot c).valid = false) ∧
    s.cfg.rxCapacity = p.pRxCapacity ∧ s.cfg.nBs = p.pNBs ∧ s.cfg.nCr = p.pNCr ∧ s.cfg.wftMax = p.pWftMax ∧
    s.cfg.localStmin = p.pLocalStmin ∧ s.cfg.padEn = p.pPadEn ∧ s.cfg.padByte = p.pPadByte

/-- The invariant holds after reset, for every choice of the parameters. -/
def Obligations.ResetInv : Prop := State.reset.Inv ∧ ∀ p : Params, (State.resetWith p).Inv

/-- Every step keeps the invariant (10_state.md R25, R26, 43_port.md R193, which the spec marks as derived). -/
def Obligations.StepKeepsInv : Prop := ∀ s t : State, s.Inv → step s = .next t → t.Inv

/-- Decoding an encoded well-formed instruction gives it back, for both byte orders. -/
def Obligations.DecodeEncode : Prop :=
  ∀ (wo : WordOrder) (i : Instr), i.wellFormed = true → decode wo (encode wo i) = .ok i

/-! ### A whole message sent (45_tp_send.md) -/

/-- The segmentation law (45_tp_send.md R281, which the spec marks as derived), from any point of a sending session on;
`SendStarts` gives the FirstFrame. When each ContinueToSend comes before its Bs deadline, each TICK at or after the St
deadline, and every frame goes out, as many turns as ConsecutiveFrames are left emit exactly those frames, in order,
then one SendDone with Ok, and free the slot, whatever block sizes and separation times the peer gives. That the row
NPDU_FC_CTS is the frame's arrival is the model's choice, log entry 10. -/
def Obligations.Segmentation : Prop :=
  ∀ (c : Nat) (turns : List Turn) (s : State),
    let sl := s.slot c
    let n := 7 - (s.channel c).aoff
    s.Inv → c < s.params.nCh → sl.valid = true → sl.direction = .sending →
    (∀ t ∈ turns, t.rx.txo.headD .done = .done) →
    (∀ t ∈ turns, ∀ d, d ≠ c → (s.slot d).expired t.rx.now.toNat = false) →
    sl.totalLength ≤ sl.bytesTransferred + turns.length * n →
    sl.bytesTransferred + turns.length * n < sl.totalLength + n →
    turnsTimely c turns s = true →
    ∃ t,
      takeTurns c turns s = some
        (((List.range turns.length).map fun i =>
            .txFrame (s.frameTo c ((s.channel c).extBytes ++
              [0x20 ||| (sl.expectedSequenceNumber + BitVec.ofNat 4 i).setWidth 8] ++
              (sl.buf.drop (sl.bytesTransferred + i * n)).take n))) ++
          [.sendDone (s.peer c) .ok], t) ∧
      (t.slot c).valid = false
end

