-- ==== Sys2Proof/Laws/State.lean ====
section
/-! SUPPORT. One lemma per field per update of the state and of a slot, all true by unfolding. -/

namespace Sys2Proof.Machine

/-! ### setSlot -/

@[simp] theorem setSlot_params (c : Nat) (sl : Slot) (s : State) :
    (setSlot c sl s).params = s.params := rfl

@[simp] theorem setSlot_mode (c : Nat) (sl : Slot) (s : State) :
    (setSlot c sl s).mode = s.mode := rfl

@[simp] theorem setSlot_cfg (c : Nat) (sl : Slot) (s : State) :
    (setSlot c sl s).cfg = s.cfg := rfl

@[simp] theorem setSlot_slots (c : Nat) (sl : Slot) (s : State) :
    (setSlot c sl s).slots = s.slots.set c sl := rfl

@[simp] theorem setSlot_pending (c : Nat) (sl : Slot) (s : State) :
    (setSlot c sl s).pending = s.pending := rfl

@[simp] theorem setSlot_txo (c : Nat) (sl : Slot) (s : State) :
    (setSlot c sl s).txo = s.txo := rfl

@[simp] theorem setSlot_actions (c : Nat) (sl : Slot) (s : State) :
    (setSlot c sl s).actions = s.actions := rfl

@[simp] theorem setSlot_result (c : Nat) (sl : Slot) (s : State) :
    (setSlot c sl s).result = s.result := rfl

/-! ### emit -/

@[simp] theorem emit_params (a : Action) (s : State) :
    (emit a s).params = s.params := rfl

@[simp] theorem emit_mode (a : Action) (s : State) :
    (emit a s).mode = s.mode := rfl

@[simp] theorem emit_cfg (a : Action) (s : State) :
    (emit a s).cfg = s.cfg := rfl

@[simp] theorem emit_slots (a : Action) (s : State) :
    (emit a s).slots = s.slots := rfl

@[simp] theorem emit_pending (a : Action) (s : State) :
    (emit a s).pending = s.pending := rfl

@[simp] theorem emit_txo (a : Action) (s : State) :
    (emit a s).txo = s.txo := rfl

@[simp] theorem emit_actions (a : Action) (s : State) :
    (emit a s).actions = s.actions ++ [a] := rfl

@[simp] theorem emit_result (a : Action) (s : State) :
    (emit a s).result = s.result := rfl

/-! ### raise -/

@[simp] theorem raise_params (k : ErrorKind) (s : State) :
    (raise k s).params = s.params := rfl

@[simp] theorem raise_mode (k : ErrorKind) (s : State) :
    (raise k s).mode = s.mode := rfl

@[simp] theorem raise_cfg (k : ErrorKind) (s : State) :
    (raise k s).cfg = s.cfg := rfl

@[simp] theorem raise_slots (k : ErrorKind) (s : State) :
    (raise k s).slots = s.slots := rfl

@[simp] theorem raise_pending (k : ErrorKind) (s : State) :
    (raise k s).pending = s.pending := rfl

@[simp] theorem raise_txo (k : ErrorKind) (s : State) :
    (raise k s).txo = s.txo := rfl

@[simp] theorem raise_actions (k : ErrorKind) (s : State) :
    (raise k s).actions = s.actions := rfl

@[simp] theorem raise_result (k : ErrorKind) (s : State) :
    (raise k s).result = .raised k := rfl

/-! ### returnValue -/

@[simp] theorem returnValue_params (v : RetVal) (s : State) :
    (returnValue v s).params = s.params := rfl

@[simp] theorem returnValue_mode (v : RetVal) (s : State) :
    (returnValue v s).mode = s.mode := rfl

@[simp] theorem returnValue_cfg (v : RetVal) (s : State) :
    (returnValue v s).cfg = s.cfg := rfl

@[simp] theorem returnValue_slots (v : RetVal) (s : State) :
    (returnValue v s).slots = s.slots := rfl

@[simp] theorem returnValue_pending (v : RetVal) (s : State) :
    (returnValue v s).pending = s.pending := rfl

@[simp] theorem returnValue_txo (v : RetVal) (s : State) :
    (returnValue v s).txo = s.txo := rfl

@[simp] theorem returnValue_actions (v : RetVal) (s : State) :
    (returnValue v s).actions = s.actions := rfl

@[simp] theorem returnValue_result (v : RetVal) (s : State) :
    (returnValue v s).result = .value v := rfl

/-! ### startOp -/

@[simp] theorem startOp_params (txo : List TxOutcome) (s : State) :
    (startOp txo s).params = s.params := rfl

@[simp] theorem startOp_mode (txo : List TxOutcome) (s : State) :
    (startOp txo s).mode = s.mode := rfl

@[simp] theorem startOp_cfg (txo : List TxOutcome) (s : State) :
    (startOp txo s).cfg = s.cfg := rfl

@[simp] theorem startOp_slots (txo : List TxOutcome) (s : State) :
    (startOp txo s).slots = s.slots := rfl

@[simp] theorem startOp_pending (txo : List TxOutcome) (s : State) :
    (startOp txo s).pending = s.pending := rfl

@[simp] theorem startOp_txo (txo : List TxOutcome) (s : State) :
    (startOp txo s).txo = txo := rfl

@[simp] theorem startOp_actions (txo : List TxOutcome) (s : State) :
    (startOp txo s).actions = [] := rfl

@[simp] theorem startOp_result (txo : List TxOutcome) (s : State) :
    (startOp txo s).result = .noValue := rfl

/-! ### endOp -/

@[simp] theorem endOp_params (s : State) :
    (endOp s).params = s.params := rfl

@[simp] theorem endOp_mode (s : State) :
    (endOp s).mode = s.mode := rfl

@[simp] theorem endOp_cfg (s : State) :
    (endOp s).cfg = s.cfg := rfl

@[simp] theorem endOp_slots (s : State) :
    (endOp s).slots = s.slots := rfl

@[simp] theorem endOp_pending (s : State) :
    (endOp s).pending = s.pending := rfl

@[simp] theorem endOp_txo (s : State) :
    (endOp s).txo = [] := rfl

@[simp] theorem endOp_actions (s : State) :
    (endOp s).actions = s.actions := rfl

@[simp] theorem endOp_result (s : State) :
    (endOp s).result = s.result := rfl

/-! ### issueFirst -/

@[simp] theorem issueFirst_params (r : Request) (s : State) :
    (issueFirst r s).params = s.params := rfl

@[simp] theorem issueFirst_mode (r : Request) (s : State) :
    (issueFirst r s).mode = s.mode := rfl

@[simp] theorem issueFirst_cfg (r : Request) (s : State) :
    (issueFirst r s).cfg = s.cfg := rfl

@[simp] theorem issueFirst_slots (r : Request) (s : State) :
    (issueFirst r s).slots = s.slots := rfl

@[simp] theorem issueFirst_pending (r : Request) (s : State) :
    (issueFirst r s).pending = r :: s.pending := rfl

@[simp] theorem issueFirst_txo (r : Request) (s : State) :
    (issueFirst r s).txo = s.txo := rfl

@[simp] theorem issueFirst_actions (r : Request) (s : State) :
    (issueFirst r s).actions = s.actions := rfl

@[simp] theorem issueFirst_result (r : Request) (s : State) :
    (issueFirst r s).result = s.result := rfl

/-! ### ended -/

@[simp] theorem ended_params (s : State) (actions : List Action) (result : OpResult) :
    (s.ended actions result).params = s.params := rfl

@[simp] theorem ended_mode (s : State) (actions : List Action) (result : OpResult) :
    (s.ended actions result).mode = s.mode := rfl

@[simp] theorem ended_cfg (s : State) (actions : List Action) (result : OpResult) :
    (s.ended actions result).cfg = s.cfg := rfl

@[simp] theorem ended_slots (s : State) (actions : List Action) (result : OpResult) :
    (s.ended actions result).slots = s.slots := rfl

@[simp] theorem ended_pending (s : State) (actions : List Action) (result : OpResult) :
    (s.ended actions result).pending = s.pending := rfl

@[simp] theorem ended_txo (s : State) (actions : List Action) (result : OpResult) :
    (s.ended actions result).txo = [] := rfl

@[simp] theorem ended_actions (s : State) (actions : List Action) (result : OpResult) :
    (s.ended actions result).actions = actions := rfl

@[simp] theorem ended_result (s : State) (actions : List Action) (result : OpResult) :
    (s.ended actions result).result = result := rfl

/-! ### andThen -/

@[simp] theorem andThen_params (s : State) (actions : List Action) :
    (s.andThen actions).params = s.params := rfl

@[simp] theorem andThen_mode (s : State) (actions : List Action) :
    (s.andThen actions).mode = s.mode := rfl

@[simp] theorem andThen_cfg (s : State) (actions : List Action) :
    (s.andThen actions).cfg = s.cfg := rfl

@[simp] theorem andThen_slots (s : State) (actions : List Action) :
    (s.andThen actions).slots = s.slots := rfl

@[simp] theorem andThen_pending (s : State) (actions : List Action) :
    (s.andThen actions).pending = s.pending := rfl

@[simp] theorem andThen_txo (s : State) (actions : List Action) :
    (s.andThen actions).txo = [] := rfl

@[simp] theorem andThen_actions (s : State) (actions : List Action) :
    (s.andThen actions).actions = s.actions ++ actions := rfl

@[simp] theorem andThen_result (s : State) (actions : List Action) :
    (s.andThen actions).result = .noValue := rfl

/-! ### andThenSlot -/

@[simp] theorem andThenSlot_params (s : State) (c : Nat) (sl : Slot) (actions : List Action) :
    (s.andThenSlot c sl actions).params = s.params := rfl

@[simp] theorem andThenSlot_mode (s : State) (c : Nat) (sl : Slot) (actions : List Action) :
    (s.andThenSlot c sl actions).mode = s.mode := rfl

@[simp] theorem andThenSlot_cfg (s : State) (c : Nat) (sl : Slot) (actions : List Action) :
    (s.andThenSlot c sl actions).cfg = s.cfg := rfl

@[simp] theorem andThenSlot_slots (s : State) (c : Nat) (sl : Slot) (actions : List Action) :
    (s.andThenSlot c sl actions).slots = s.slots.set c sl := rfl

@[simp] theorem andThenSlot_pending (s : State) (c : Nat) (sl : Slot) (actions : List Action) :
    (s.andThenSlot c sl actions).pending = s.pending := rfl

@[simp] theorem andThenSlot_txo (s : State) (c : Nat) (sl : Slot) (actions : List Action) :
    (s.andThenSlot c sl actions).txo = [] := rfl

@[simp] theorem andThenSlot_actions (s : State) (c : Nat) (sl : Slot) (actions : List Action) :
    (s.andThenSlot c sl actions).actions = s.actions ++ actions := rfl

@[simp] theorem andThenSlot_result (s : State) (c : Nat) (sl : Slot) (actions : List Action) :
    (s.andThenSlot c sl actions).result = .noValue := rfl

/-! ### Slots -/

@[simp] theorem freed_valid (sl : Slot) : sl.freed.valid = false := rfl

@[simp] theorem freed_direction (sl : Slot) : sl.freed.direction = sl.direction := rfl

@[simp] theorem freed_state (sl : Slot) : sl.freed.state = sl.state := rfl

@[simp] theorem freed_totalLength (sl : Slot) : sl.freed.totalLength = sl.totalLength := rfl

@[simp] theorem freed_bytesTransferred (sl : Slot) : sl.freed.bytesTransferred = sl.bytesTransferred := rfl

@[simp] theorem freed_expectedSequenceNumber (sl : Slot) : sl.freed.expectedSequenceNumber = sl.expectedSequenceNumber := rfl

@[simp] theorem freed_deadline (sl : Slot) : sl.freed.deadline = sl.deadline := rfl

@[simp] theorem freed_waitFlowControlCount (sl : Slot) : sl.freed.waitFlowControlCount = sl.waitFlowControlCount := rfl

@[simp] theorem freed_timer (sl : Slot) : sl.freed.timer = sl.timer := rfl

@[simp] theorem freed_blockSize (sl : Slot) : sl.freed.blockSize = sl.blockSize := rfl

@[simp] theorem freed_blockRemaining (sl : Slot) : sl.freed.blockRemaining = sl.blockRemaining := rfl

@[simp] theorem freed_stMinUs (sl : Slot) : sl.freed.stMinUs = sl.stMinUs := rfl

@[simp] theorem freed_buf (sl : Slot) : sl.freed.buf = sl.buf := rfl

@[simp] theorem created_valid (old : Slot) (dir : Direction) (st : SessionState) (total transferred : Nat) (data : Bytes) :
    (old.created dir st total transferred data).valid = true := rfl

@[simp] theorem created_direction (old : Slot) (dir : Direction) (st : SessionState) (total transferred : Nat) (data : Bytes) :
    (old.created dir st total transferred data).direction = dir := rfl

@[simp] theorem created_state (old : Slot) (dir : Direction) (st : SessionState) (total transferred : Nat) (data : Bytes) :
    (old.created dir st total transferred data).state = st := rfl

@[simp] theorem created_totalLength (old : Slot) (dir : Direction) (st : SessionState) (total transferred : Nat) (data : Bytes) :
    (old.created dir st total transferred data).totalLength = total := rfl

@[simp] theorem created_bytesTransferred (old : Slot) (dir : Direction) (st : SessionState) (total transferred : Nat) (data : Bytes) :
    (old.created dir st total transferred data).bytesTransferred = transferred := rfl

@[simp] theorem created_expectedSequenceNumber (old : Slot) (dir : Direction) (st : SessionState) (total transferred : Nat) (data : Bytes) :
    (old.created dir st total transferred data).expectedSequenceNumber = 1 := rfl

@[simp] theorem created_deadline (old : Slot) (dir : Direction) (st : SessionState) (total transferred : Nat) (data : Bytes) :
    (old.created dir st total transferred data).deadline = old.deadline := rfl

@[simp] theorem created_waitFlowControlCount (old : Slot) (dir : Direction) (st : SessionState) (total transferred : Nat) (data : Bytes) :
    (old.created dir st total transferred data).waitFlowControlCount = 0 := rfl

@[simp] theorem created_timer (old : Slot) (dir : Direction) (st : SessionState) (total transferred : Nat) (data : Bytes) :
    (old.created dir st total transferred data).timer = .none := rfl

@[simp] theorem created_blockSize (old : Slot) (dir : Direction) (st : SessionState) (total transferred : Nat) (data : Bytes) :
    (old.created dir st total transferred data).blockSize = 0 := rfl

@[simp] theorem created_blockRemaining (old : Slot) (dir : Direction) (st : SessionState) (total transferred : Nat) (data : Bytes) :
    (old.created dir st total transferred data).blockRemaining = 0 := rfl

@[simp] theorem created_stMinUs (old : Slot) (dir : Direction) (st : SessionState) (total transferred : Nat) (data : Bytes) :
    (old.created dir st total transferred data).stMinUs = 0 := rfl

@[simp] theorem created_buf (old : Slot) (dir : Direction) (st : SessionState) (total transferred : Nat) (data : Bytes) :
    (old.created dir st total transferred data).buf = memWrite [] 0 data := rfl

/-- What `Slot.ok` says of a valid slot. -/
theorem ok_iff (sl : Slot) (mode : Mode) (peer : PeerAddr) :
    sl.ok mode peer = true ↔ (sl.valid = true → mode = .bound ∧ sl.SessionInv peer ∧ sl.RangeInv) := by
  unfold Slot.ok
  cases sl.valid
  · simp only [Bool.not_false, Bool.true_or, reduceCtorEq, false_implies]
  · rw [Bool.not_true, Bool.false_or, Bool.and_eq_true, Bool.and_eq_true, decide_eq_true_eq, decide_eq_true_eq,
      decide_eq_true_eq, and_assoc]
    exact ⟨fun h _ => h, fun h => h rfl⟩

/-- A slot without a session is as it may stand. -/
theorem ok_of_not_valid (sl : Slot) (mode : Mode) (peer : PeerAddr) (h : sl.valid = false) : sl.ok mode peer = true := by
  simp [Slot.ok, h]

end Sys2Proof.Machine
end

