-- ==== Sys2Proof/Laws/Ops.lean ====
section
/-! SUPPORT. What each shared operation can do, said once: byte spaces, slots, transmission, the end of a session,
timers, gates, the frame of an operation. -/

namespace Sys2Proof.Machine

/-! ### Byte spaces -/

/-- A write at the end of a space appends (20_memory.md R72). -/
theorem memWrite_append (b data : Bytes) : memWrite b b.length data = b ++ data := by
  simp [memWrite]

/-- The first write into a space just emptied (20_memory.md R72). -/
@[simp] theorem memWrite_nil (data : Bytes) : memWrite [] 0 data = data := by
  simp [memWrite]

/-- A read after a write to the same place gives what was written. -/
theorem memRead_memWrite_same (b data : Bytes) (off : Nat) (h : off ≤ b.length) :
    memRead (memWrite b off data) off data.length = data := by
  have h1 : (b.take off).length = off := by simp [h]
  unfold memRead memWrite
  rw [List.append_assoc, List.drop_append, h1]
  simp

/-- A write leaves the bytes below it alone. -/
theorem memRead_memWrite_below (b data : Bytes) (off n : Nat) (h : off ≤ b.length) (hn : n ≤ off) :
    memRead (memWrite b off data) 0 n = memRead b 0 n := by
  have h1 : n ≤ (b.take off).length := by simp [h]; omega
  unfold memRead memWrite
  rw [List.append_assoc, List.drop_zero, List.drop_zero, List.take_append_of_le_length h1, List.take_take,
    Nat.min_eq_left hn]

/-- An append grows a space by what is appended. -/
theorem length_memWrite_append (b data : Bytes) : (memWrite b b.length data).length = b.length + data.length := by
  simp [memWrite_append]

/-! ### Slots -/

/-- Writing a slot and reading it back. -/
theorem slot_setSlot_self (c : Nat) (sl : Slot) (s : State) (h : c < s.slots.length) : (setSlot c sl s).slot c = sl := by
  simp [State.slot, h]

/-- Writing a slot leaves the others alone (10_state.md R27). -/
theorem slot_setSlot_other (c d : Nat) (sl : Slot) (s : State) (h : d ≠ c) : (setSlot c sl s).slot d = s.slot d := by
  simp [State.slot, Ne.symm h]

/-- Two writes to one slot. -/
@[simp] theorem setSlot_setSlot (c : Nat) (a b : Slot) (s : State) : setSlot c a (setSlot c b s) = setSlot c a s := by
  simp [setSlot]

/-- A slot beyond the table reads as no session. -/
theorem slot_beyond (c : Nat) (s : State) (h : s.slots.length ≤ c) : s.slot c = Slot.idle := by
  simp [State.slot, h]

/-- The slots are read through the list of slots alone. -/
theorem slot_congr {s t : State} (h : t.slots = s.slots) (c : Nat) : t.slot c = s.slot c := by
  simp [State.slot, h]

/-! ### Transmission -/

/-- `tx`: the next outcome is taken, and the frame is emitted when it is `Done` (43_port.md R208). -/
theorem tx_spec (image : Bytes) (s : State) :
    tx image s =
      (s.nextTx,
        if s.nextTx = .done then { s with txo := s.txo.tail, actions := s.actions ++ [.txFrame image] }
        else { s with txo := s.txo.tail }) := by
  unfold tx State.nextTx
  rcases h : s.txo with - | ⟨o, rest⟩
  · cases s
    simp_all [emit]
  · cases o <;> simp [emit]

/-! ### The end of a session -/

/-- `finish`: one delivery, and the slot is free (60_exceptions.md R320). -/
theorem finish_spec (c : Nat) (code : ResultCode) (s : State) :
    finish c code s =
      { s with slots := s.slots.set c (s.slot c).freed, actions := s.actions ++ [s.delivery c code] } := by
  unfold finish State.delivery Slot.freed setSlot emit memRead
  cases h : (s.slot c).direction <;> simp [h]

/-- `abort` is `finish` (60_exceptions.md R320). -/
theorem abort_eq_finish (c : Nat) (code : ResultCode) (s : State) : abort c code s = finish c code s := rfl

/-- `complete` is `finish` with `Ok` (60_exceptions.md R321). -/
theorem complete_eq_finish (c : Nat) (s : State) : complete c s = finish c .ok s := rfl

/-- `report`: one delivery, nothing else (44_tp_receive.md R249). -/
theorem report_spec (c : Nat) (s : State) : report c s = { s with actions := s.actions ++ [s.unexpected c] } := rfl

/-! ### Timers -/

/-- `arm`: kind and deadline of one slot (46_tp_timers.md R291). -/
theorem arm_spec (c : Nat) (k : TimerKind) (now : Nat) (s : State) :
    arm c k now s =
      setSlot c { s.slot c with timer := k, deadline := now + timerDuration s.cfg (s.slot c) k } s := rfl

/-- When the timer of a slot has expired (46_tp_timers.md R292). -/
theorem expired_iff (sl : Slot) (now : Nat) : sl.expired now = true ↔ sl.valid = true ∧ sl.deadline ≤ now := by
  simp [Slot.expired]

/-! ### Gates and the frame of an operation -/

/-- `runOp` always answers a next state: the body, run from a state without outputs (00_scope.md R16). -/
theorem runOp_spec (txo : List TxOutcome) (body : State → State) (s : State) :
    runOp txo body s = .next { body (startOp txo s) with txo := [] } := rfl

/-- The gate of the configuration operations (43_port.md R190). -/
theorem configGate_spec (body : State → State) (s : State) :
    configGate body s = if s.mode = .closed then raise .closedError s else body s := by
  unfold configGate
  cases h : s.mode <;> simp

/-- The gate of the traffic operations (43_port.md R190). -/
theorem trafficGate_spec (errno : Nat) (body : State → State) (s : State) :
    trafficGate errno body s =
      if s.mode = .closed then raise .closedError s
      else if s.mode = .unbound then raise (.systemCallError errno) s else body s := by
  unfold trafficGate
  cases h : s.mode <;> simp

/-- The block takes an operation only when one has been issued (60_exceptions.md R334). -/
theorem step_at_rest (s : State) (h : s.pending = []) : step s = .next s := by
  unfold step fetch
  rw [h]

/-- A request issued first is the one fetched. -/
theorem fetch_issueFirst (r : Request) (s : State) : fetch (issueFirst r s) = some (r, s) := rfl

end Sys2Proof.Machine
end

