-- ==== Sys2Proof/Laws/Transport.lean ====
section
/-! SUPPORT. What the handlers of the transport leave alone: parameters, mode, configuration, requests, the result of
the operation, the number of slots, and every slot but one (10_state.md R27). -/

namespace Sys2Proof.Machine

/-- Only channel `c`'s slot, the actions and the outcomes at hand may differ. -/
structure OnlySlot (c : Nat) (s t : State) : Prop where
  params : t.params = s.params
  mode : t.mode = s.mode
  cfg : t.cfg = s.cfg
  pending : t.pending = s.pending
  result : t.result = s.result
  length : t.slots.length = s.slots.length
  slot : ∀ d, d ≠ c → t.slot d = s.slot d

theorem OnlySlot.refl (c : Nat) (s : State) : OnlySlot c s s := ⟨rfl, rfl, rfl, rfl, rfl, rfl, fun _ _ => rfl⟩

theorem OnlySlot.trans {c : Nat} {s t u : State} (h : OnlySlot c s t) (k : OnlySlot c t u) : OnlySlot c s u where
  params := k.params.trans h.params
  mode := k.mode.trans h.mode
  cfg := k.cfg.trans h.cfg
  pending := k.pending.trans h.pending
  result := k.result.trans h.result
  length := k.length.trans h.length
  slot := fun d hd => (k.slot d hd).trans (h.slot d hd)

theorem onlySlot_setSlot (c : Nat) (sl : Slot) (s : State) : OnlySlot c s (setSlot c sl s) :=
  ⟨rfl, rfl, rfl, rfl, rfl, by simp, fun _ hd => slot_setSlot_other _ _ _ _ hd⟩

theorem onlySlot_emit (c : Nat) (a : Action) (s : State) : OnlySlot c s (emit a s) := ⟨rfl, rfl, rfl, rfl, rfl, rfl, fun _ _ => rfl⟩

theorem onlySlot_tx (c : Nat) (image : Bytes) (s : State) : OnlySlot c s (tx image s).2 := by
  rw [tx_spec]
  split <;> exact ⟨rfl, rfl, rfl, rfl, rfl, rfl, fun _ _ => rfl⟩

theorem onlySlot_finish (c : Nat) (code : ResultCode) (s : State) : OnlySlot c s (finish c code s) := by
  unfold finish
  exact (onlySlot_emit c _ s).trans (onlySlot_setSlot c _ _)

theorem onlySlot_arm (c : Nat) (k : TimerKind) (now : Nat) (s : State) : OnlySlot c s (arm c k now s) :=
  onlySlot_setSlot c _ s

theorem onlySlot_report (c : Nat) (s : State) : OnlySlot c s (report c s) := onlySlot_emit c _ s

theorem onlySlot_afterCf (c now : Nat) (s : State) : OnlySlot c s (afterCf c now s) := by
  unfold afterCf
  dsimp only
  split
  · exact (onlySlot_setSlot c _ s).trans (onlySlot_finish c _ _)
  · split
    · split <;> exact (onlySlot_setSlot c _ s).trans (onlySlot_arm c _ _ _)
    · exact (onlySlot_setSlot c _ s).trans (onlySlot_arm c _ _ _)

theorem onlySlot_sendNextCF (c now : Nat) (s : State) : OnlySlot c s (sendNextCF c now s) := by
  unfold sendNextCF
  have h := onlySlot_tx c (nextCfImage c s) s
  split <;> rename_i heq <;> rw [heq] at h
  · exact h.trans (onlySlot_afterCf c now _)
  · exact h.trans (onlySlot_finish c _ _)
  · exact h.trans (onlySlot_finish c _ _)

theorem onlySlot_rxFC (c : Nat) (fs : BitVec 4) (bs st : Byte) (now : Nat) (s : State) :
    OnlySlot c s (rxFC c fs bs st now s) := by
  unfold rxFC
  split
  · exact onlySlot_report c s
  · split
    · exact (onlySlot_setSlot c _ s).trans (onlySlot_sendNextCF c now _)
    · unfold fcWait
      dsimp only
      split
      · exact (onlySlot_setSlot c _ s).trans (onlySlot_finish c _ _)
      · exact (onlySlot_setSlot c _ s).trans (onlySlot_arm c _ _ _)
    · exact onlySlot_finish c _ s
    · exact onlySlot_finish c _ s

theorem onlySlot_rxSF (c : Nat) (data : Bytes) (s : State) : OnlySlot c s (rxSF c data s) := by
  unfold rxSF
  dsimp only
  split
  · exact (onlySlot_finish c _ s).trans (onlySlot_emit c _ _)
  · exact onlySlot_emit c _ s

theorem onlySlot_startReceiving (c total : Nat) (data : Bytes) (now : Nat) (s : State) :
    OnlySlot c s (startReceiving c total data now s) := by
  unfold startReceiving
  dsimp only
  refine (onlySlot_setSlot c ((s.slot c).created .receiving .accumulatingFF total data.length data) s).trans ?_
  generalize setSlot c ((s.slot c).created .receiving .accumulatingFF total data.length data) s = u
  have h := onlySlot_tx c (flowControlImage c u) u
  split <;> rename_i heq <;> rw [heq] at h
  · exact h.trans (onlySlot_arm c _ _ _)
  · exact h.trans (onlySlot_finish c _ _)
  · exact h.trans (onlySlot_finish c _ _)

theorem onlySlot_rxFF (c total : Nat) (data : Bytes) (now : Nat) (s : State) :
    OnlySlot c s (rxFF c total data now s) := by
  unfold rxFF
  split
  · exact .refl c s
  · split
    · exact onlySlot_emit c _ s
    · split
      · split
        · exact onlySlot_report c s
        · exact (onlySlot_finish c _ s).trans (onlySlot_startReceiving c _ _ _ _)
      · exact onlySlot_startReceiving c _ _ _ s

theorem onlySlot_rxCF (c : Nat) (sn : BitVec 4) (data : Bytes) (now : Nat) (s : State) :
    OnlySlot c s (rxCF c sn data now s) := by
  unfold rxCF
  split
  · exact onlySlot_report c s
  · split
    · exact onlySlot_finish c _ s
    · split
      · exact .refl c s
      · unfold storeCf
        dsimp only
        split
        · exact (onlySlot_setSlot c _ s).trans (onlySlot_finish c _ _)
        · exact (onlySlot_setSlot c _ s).trans (onlySlot_arm c _ _ _)

theorem onlySlot_expireSlot (now c : Nat) (s : State) : OnlySlot c s (expireSlot now c s) := by
  unfold expireSlot
  split
  · split
    · exact onlySlot_finish c _ s
    · exact onlySlot_finish c _ s
    · exact onlySlot_sendNextCF c now s
    · exact .refl c s
  · exact .refl c s

/-- A slot that has not expired is left as it is (46_tp_timers.md R293). -/
theorem expireSlot_idle (now c : Nat) (s : State) (h : (s.slot c).expired now = false) : expireSlot now c s = s := by
  simp [expireSlot, h]

end Sys2Proof.Machine
end

