-- ==== Sys2Proof/Tests/Slice0.lean ====
section
/-! SUPPORT. The model's own tests. The expected values are those of spec/95_test_vectors.md, named by their number or
section there, or written out from the encoding a rule gives. The `witness_…` theorems show, for each statement of
Certificates/Slice0/Obligations.lean that has hypotheses, states and operands that meet them. -/

namespace Sys2Proof.Tests

open Sys2Proof Sys2Proof.Machine

/-! ### Small states -/

/-- Zero bytes, and the bytes 0, 1, 2, … -/
def upTo (n : Nat) : Bytes := (List.range n).map (BitVec.ofNat 8)

/-- Time `t`, every `Tx` answered `Done`. -/
def at' (t : BitVec 64) : RxArgs := ⟨t, [], 7⟩

/-- The block of T0 after a successful BIND. -/
def bound : State := { State.reset with mode := .bound }

/-- The block of T0 after CLOSE. -/
def closed : State := { State.reset with mode := .closed }

/-- Section 7.2 after its first operation. -/
def recvSlot : Slot := ⟨true, .receiving, .accumulatingFF, 20, 6, 1, 1000000, 0, .cr, 0, 0, 0, upTo 6⟩

/-- Section 8.2 after its first operation. -/
def awaitSlot : Slot := ⟨true, .sending, .awaitingFlowControl, 20, 6, 1, 1000000, 0, .bs, 0, 0, 0, upTo 20⟩

/-- Section 8.2 after its second operation. -/
def sendSlot : Slot := ⟨true, .sending, .sendingConsecutive, 20, 13, 2, 100, 0, .st, 0, 0, 0, upTo 20⟩

/-- Section 8.3 after its second operation. -/
def blockSlot : Slot := ⟨true, .sending, .sendingConsecutive, 30, 13, 2, 10050, 0, .st, 2, 1, 10000, upTo 30⟩

/-- A bound block with these three slots. -/
def slots (a b c : Slot) : State := { bound with slots := [a, b, c] }

/-- A bound block whose channel 0 has this slot. -/
def on0 (a : Slot) : State := slots a .idle .idle

/-- The same block with other registers. -/
def withCfg (f : Cfg → Cfg) (s : State) : State := { s with cfg := f s.cfg }

/-- The peers of T0. -/
def peer0 : PeerAddr := ⟨0x10, 0xF1, .physical, none⟩
def peer1 : PeerAddr := ⟨0x22, 0xF1, .physical, some 0x55⟩
def peer2 : PeerAddr := ⟨0x33, 0xF1, .functional, none⟩
def peer9 : PeerAddr := ⟨0x99, 0xF1, .physical, none⟩

/-- The actions of an operation. -/
def acts (o : Out) : Option (List Action) := (nextState o).map (·.actions)

/-- How an operation ended. -/
def result (o : Out) : Option OpResult := (nextState o).map (·.result)

/-- A slot after an operation. -/
def slotAfter (c : Nat) (o : Out) : Option Slot := (nextState o).map (·.slot c)

/-- The image of a frame with a standard identifier below 0x800. -/
def std (hi lo : Byte) (data : Bytes) : Bytes :=
  [lo, hi, 0, 0, BitVec.ofNat 8 data.length, 0, 0, 0] ++ data ++ zeros (8 - data.length)

/-- The image of a frame of channel 1 to the peer, identifier 18DA22F1. -/
def ext1 (data : Bytes) : Bytes :=
  [0xF1, 0x22, 0xDA, 0x98, BitVec.ofNat 8 data.length, 0, 0, 0] ++ data ++ zeros (8 - data.length)

/-- Every slot but `c` is unexpired, when those of the table are. -/
theorem others_unexpired (c now : Nat) (s : State)
    (h : ∀ d, d < s.slots.length → d ≠ c → (s.slot d).expired now = false) :
    ∀ d, d ≠ c → (s.slot d).expired now = false := by
  intro d hd
  by_cases hl : d < s.slots.length
  · exact h d hl hd
  · rw [slot_beyond d s (Nat.le_of_not_lt hl)]
    rfl

/-! ### WellFormed: one ill-formed term for each check -/

def badImg : ImgBody := ⟨0, 0, 0, 0, 0, [1, 2, 3]⟩
def okImg : ImgBody := ⟨0, 0, 0, 0, 0, zeros 8⟩

theorem test_frame_too_long : (Instr.errDecode ⟨0, false, false, true, 9, zeros 8⟩).wellFormed = false := by decide
theorem test_frame_storage : (Instr.errDecode ⟨0, false, false, true, 8, zeros 7⟩).wellFormed = false := by decide
theorem test_frame_id_unmasked : (Instr.errDecode ⟨0x800, false, false, false, 0, zeros 8⟩).wellFormed = false := by
  decide
theorem test_image_storage :
    ([.frameStdData badImg (at' 0), .frameExtData badImg (at' 0), .frameStdRemote badImg (at' 0),
      .frameExtRemote badImg (at' 0), .frameError false false badImg (at' 0)] : List Instr).all
      (fun i => !i.wellFormed) = true := by decide
theorem test_class_bit_clear :
    ([.errClassTimeout false false okImg (at' 0), .errClassLostArbitration false false okImg (at' 0),
      .errClassControllerError false false okImg (at' 0), .errClassProtocolViolation false false okImg (at' 0),
      .errClassTransceiverStatus false false okImg (at' 0), .errClassNoAck false false okImg (at' 0),
      .errClassBusOff false false okImg (at' 0), .errClassBusError false false okImg (at' 0),
      .errClassRestarted false false okImg (at' 0)] : List Instr).all (fun i => !i.wellFormed) = true := by decide
theorem test_class_image_storage :
    ([.errClassTimeout false false { badImg with word := 0x001 } (at' 0),
      .errClassLostArbitration false false { badImg with word := 0x002 } (at' 0),
      .errClassControllerError false false { badImg with word := 0x004 } (at' 0),
      .errClassProtocolViolation false false { badImg with word := 0x008 } (at' 0),
      .errClassTransceiverStatus false false { badImg with word := 0x010 } (at' 0),
      .errClassNoAck false false { badImg with word := 0x020 } (at' 0),
      .errClassBusOff false false { badImg with word := 0x040 } (at' 0),
      .errClassBusError false false { badImg with word := 0x080 } (at' 0),
      .errClassRestarted false false { badImg with word := 0x100 } (at' 0)] : List Instr).all
      (fun i => !i.wellFormed) = true := by decide
theorem test_class_not_first :
    (Instr.errClassBusOff false false { okImg with word := 0x041 } (at' 0)).wellFormed = false := by decide
theorem test_pdu_too_long :
    ([.npduSf 0 0 (zeros 8) (at' 0), .npduFf32 0 (zeros 7) (at' 0), .npduFf12 0 9 (zeros 7) (at' 0),
      .npduCf 0 0 (zeros 8) (at' 0), .npduFcCts 0 (zeros 8) (at' 0), .npduFcWait 0 (zeros 8) (at' 0),
      .npduFcOverflow 0 (zeros 8) (at' 0), .npduFcReserved3 0 (zeros 8) (at' 0),
      .npduFcReserved4to7 0 0 (zeros 8) (at' 0), .npduFcReserved8toF 0 0 (zeros 8) (at' 0),
      .npduUnknown4to7 0 0 (zeros 8) (at' 0), .npduUnknown8toF 0 0 (zeros 8) (at' 0)] : List Instr).all
      (fun i => !i.wellFormed) = true := by decide
theorem test_ff12_length_zero : (Instr.npduFf12 0 0 (zeros 6) (at' 0)).wellFormed = false := by decide
theorem test_flt_bits_clear :
    ([.fltIdExtended ⟨0, 0⟩, .fltIdInvert ⟨0, 0⟩, .fltMaskTyped ⟨0, 0x80000000⟩, .fltMaskTyped ⟨0, 0x40000000⟩] :
      List Instr).all (fun i => !i.wellFormed) = true := by decide
theorem test_flt_not_first :
    ([.fltIdInvert ⟨0xA0000000, 0⟩, .fltMaskTyped ⟨0x80000000, 0xC0000000⟩, .fltMaskTyped ⟨0x20000000, 0xC0000000⟩] :
      List Instr).all (fun i => !i.wellFormed) = true := by decide

/-! ### Decoding: a word for every constructor (30_encoding.md R86, R96, R116, R117, R122, 42_error_decoder.md R172) -/

/-- A request of group OP. -/
def op (b : Byte) : Decoded := decode .little ⟨.op, [b], {}⟩

/-- A request of group REG: a read. -/
def reg (b : Byte) : Decoded := decode .little ⟨.reg, [b], {}⟩

/-- A request of group IMG or ERRFRM with this identifier word, given as its image bytes 0 to 3. -/
def img (fmt : Format) (b0 b1 b2 b3 : Byte) : Decoded :=
  decode .little ⟨fmt, [b0, b1, b2, b3, 2, 0, 0, 0, 0xAA, 0xBB, 0, 0, 0, 0, 0, 0], {}⟩

/-- A request of group NPDU on channel 1. -/
def pdu (b : Bytes) : Decoded := decode .little ⟨.npdu, b, { channel := 1 }⟩

/-- The decoded image of `img` with these identifier bits. -/
def body (w : BitVec 29) : ImgBody := ⟨w, 2, 0, 0, 0, [0xAA, 0xBB, 0, 0, 0, 0, 0, 0]⟩

def none0 : RxArgs := ⟨0, [], 0⟩

theorem test_decode_op :
    op 0x00 = .ok (.encode 0 false false []) ∧ op 0x01 = .ok (.decode []) ∧ op 0x02 = .ok (.filterApply [] false 0) ∧
    op 0x03 = .ok (.filterRead false 0) ∧ op 0x04 = .ok (.errDecode ⟨0, false, false, false, 0, zeros 8⟩) ∧
    op 0x05 = .ok (.bind [] .ok) ∧ op 0x06 = .ok .close ∧ op 0x07 = .ok (.cfgWrite 0 0 false 0) ∧
    op 0x08 = .ok (.cfgRead 0 false 0) ∧ op 0x09 = .ok (.rxRaw [] none0) ∧
    op 0x0A = .ok (.send [] ⟨0, 0, .physical, none⟩ none0) ∧ op 0x0B = .ok (.tick 0 []) ∧
    op 0x0C = .ok (.opReserved12to15 0) ∧ op 0x0F = .ok (.opReserved12to15 3) := by decide

theorem test_decode_reg :
    reg 0x00 = .ok (.regRxCapacity (.read false 0)) ∧ reg 0x01 = .ok (.regNBs (.read false 0)) ∧
    reg 0x02 = .ok (.regNCr (.read false 0)) ∧ reg 0x03 = .ok (.regWftMax (.read false 0)) ∧
    reg 0x04 = .ok (.regLocalStmin (.read false 0)) ∧ reg 0x05 = .ok (.regPadEn (.read false 0)) ∧
    reg 0x06 = .ok (.regPadByte (.read false 0)) ∧ reg 0x07 = .ok (.regErrMask (.read false 0)) ∧
    reg 0x08 = .ok (.regLoopback (.read false 0)) ∧ reg 0x09 = .ok (.regRecvOwn (.read false 0)) ∧
    reg 0x0A = .ok (.regReserved10to11 0) ∧ reg 0x0B = .ok (.regReserved10to11 1) ∧
    reg 0x0C = .ok (.regReserved12to15 0) ∧ reg 0x0E = .ok (.regReserved12to15 2) := by decide

theorem test_decode_img :
    img .img 0xE8 0x07 0x00 0x00 = .ok (.frameStdData (body 0x7E8) none0) ∧
    img .img 0x22 0xF1 0xDA 0x98 = .ok (.frameExtData (body 0x18DAF122) none0) ∧
    img .img 0xE8 0x07 0x00 0x40 = .ok (.frameStdRemote (body 0x7E8) none0) ∧
    img .img 0x22 0xF1 0xDA 0xD8 = .ok (.frameExtRemote (body 0x18DAF122) none0) ∧
    img .img 0x02 0x00 0x00 0xA0 = .ok (.frameError true false (body 2) none0) := by decide

theorem test_decode_errfrm :
    img .errfrm 0x01 0 0 0x20 = .ok (.errClassTimeout false false (body 0x001) none0) ∧
    img .errfrm 0x02 0 0 0x20 = .ok (.errClassLostArbitration false false (body 0x002) none0) ∧
    img .errfrm 0x04 0 0 0xA0 = .ok (.errClassControllerError true false (body 0x004) none0) ∧
    img .errfrm 0x08 0 0 0x60 = .ok (.errClassProtocolViolation false true (body 0x008) none0) ∧
    img .errfrm 0x10 0 0 0x20 = .ok (.errClassTransceiverStatus false false (body 0x010) none0) ∧
    img .errfrm 0x20 0 0 0x20 = .ok (.errClassNoAck false false (body 0x020) none0) ∧
    img .errfrm 0x40 0 0 0x20 = .ok (.errClassBusOff false false (body 0x040) none0) ∧
    img .errfrm 0x80 0 0 0x20 = .ok (.errClassBusError false false (body 0x080) none0) ∧
    img .errfrm 0x00 1 0 0x20 = .ok (.errClassRestarted false false (body 0x100) none0) := by decide

theorem test_decode_npdu :
    pdu [0x02, 0x11, 0xAA] = .ok (.npduSf 1 2 [0x11, 0xAA] none0) ∧
    pdu [0x10, 0x00, 0, 0, 0x10, 0, 1] = .ok (.npduFf32 1 [0, 0, 0x10, 0, 1] none0) ∧
    pdu [0x1F, 0xFE, 1, 2] = .ok (.npduFf12 1 0xFFE [1, 2] none0) ∧
    pdu [0x2F, 0x01] = .ok (.npduCf 1 15 [1] none0) ∧ pdu [0x30, 1, 2] = .ok (.npduFcCts 1 [1, 2] none0) ∧
    pdu [0x31, 1, 2] = .ok (.npduFcWait 1 [1, 2] none0) ∧ pdu [0x32, 1, 2] = .ok (.npduFcOverflow 1 [1, 2] none0) ∧
    pdu [0x33, 1, 2] = .ok (.npduFcReserved3 1 [1, 2] none0) ∧
    pdu [0x36, 1, 2] = .ok (.npduFcReserved4to7 1 2 [1, 2] none0) ∧
    pdu [0x3D, 1, 2] = .ok (.npduFcReserved8toF 1 5 [1, 2] none0) ∧
    pdu [0x7A] = .ok (.npduUnknown4to7 1 0x3A [] none0) ∧ pdu [0xF1, 9] = .ok (.npduUnknown8toF 1 0x71 [9] none0) := by
  decide

theorem test_decode_fltent :
    decode .little ⟨.fltent, [0x10, 0xF1, 0xDA, 0x98, 0xFF, 0xFF, 0xFF, 0xDF], {}⟩ =
      .ok (.fltIdExtended ⟨0x98DAF110, 0xDFFFFFFF⟩) ∧
    decode .little ⟨.fltent, [0x23, 0x01, 0x00, 0x20, 0xFF, 0x07, 0x00, 0xC0], {}⟩ =
      .ok (.fltIdInvert ⟨0x20000123, 0xC00007FF⟩) ∧
    decode .big ⟨.fltent, [0x00, 0x00, 0x01, 0x23, 0xC0, 0x00, 0x07, 0xFF], {}⟩ =
      .ok (.fltMaskTyped ⟨0x123, 0xC00007FF⟩) := by decide

theorem test_decode_rejects :
    op 0x16 = .rejected .badSelector ∧ decode .little ⟨.img, zeros 15, {}⟩ = .rejected .badImage ∧
    img .errfrm 0x00 0x02 0 0x20 = .rejected .noErrorClass ∧ img .errfrm 0x01 0 0 0 = .rejected .noErrorClass ∧
    pdu [] = .rejected .badNpdu ∧ pdu [0x10] = .rejected .badNpdu ∧ pdu (zeros 9) = .rejected .badNpdu ∧
    decode .little ⟨.fltent, zeros 7, {}⟩ = .rejected .badPair ∧
    decode .little ⟨.fltent, zeros 8, {}⟩ = .rejected .noFilterRow := by decide

/-- The words of the opcode table that say their group. -/
theorem test_table_words :
    decodeTableWord 8 0x06 = some .close ∧ decodeTableWord 8 0x25 = some (.npduCf 0 5 (zeros 7) none0) ∧
    decodeTableWord 16 0x1014 = some (.npduFf12 0 20 (zeros 6) none0) ∧
    decodeTableWord 16 0x1000 = some (.npduFf32 0 (zeros 6) none0) ∧
    decodeTableWord 32 0x20000040 = some (.errClassBusOff false false ⟨0x40, 0, 0, 0, 0, zeros 8⟩ none0) ∧
    decodeTableWord 32 0xC0000000 = some (.frameExtRemote ⟨0, 0, 0, 0, 0, zeros 8⟩ none0) := by decide

/-- A table word is what the next step runs. -/
theorem test_step_runs_word :
    result (step (State.reset.withFetchWord 8 0x06)) = some .noValue ∧
    (nextState (step (State.reset.withFetchWord 8 0x06))).map (·.mode) = some .closed := by decide

/-! ### Codec -/

theorem test_EN8 : result (exec (.encode 0xFFFFFFFF true false []) State.reset) =
    some (.value (.bytes [0xFF, 0xFF, 0xFF, 0x9F, 0, 0, 0, 0, 0, 0, 0, 0, 0, 0, 0, 0])) := by decide
theorem test_EN6 : result (exec (.encode 0x123 false true [0xAA, 0xBB]) closed) =
    some (.value (.bytes [0x23, 0x01, 0x00, 0x40, 2, 0, 0, 0, 0xAA, 0xBB, 0, 0, 0, 0, 0, 0])) := by decide
theorem test_DE2 :
    result (exec (.decode [0x23, 0xF9, 0xFF, 0x1F, 1, 0, 0, 0, 0x7E, 0, 0, 0, 0, 0, 0, 0]) State.reset) =
    some (.value (.frame ⟨0x123, false, false, false, 1, [0x7E, 0, 0, 0, 0, 0, 0, 0]⟩)) := by decide
theorem test_DE11 : result (exec (.decode [0x23, 1, 0, 0, 9, 0, 0, 0, 0, 0, 0, 0, 0, 0, 0, 0]) State.reset) =
    some (.raised .formatError) := by decide
theorem test_E12 :
    result (exec (.errDecode ⟨0xE, false, false, true, 8, [7, 0x30, 4, 0x19, 0x70, 0, 0, 0]⟩) State.reset) =
    some (.value (.report
      ⟨[.lostArbitration, .controllerError, .protocolViolation], some 7, [], [], none, none⟩)) := by decide
theorem test_E7 : result (exec (.errDecode ⟨8, false, false, true, 4, [0, 0, 0x81, 0xFF, 0, 0, 0, 0]⟩) State.reset) =
    some (.value (.report ⟨[.protocolViolation], none, [], [.singleBit, .txError], some .unknown, none⟩)) := by decide

/-! ### Filters -/

theorem test_F5 : result (exec (.filterApply [⟨0x18DAF110, 0x1FFFFF00, .extended, true⟩] true 0) State.reset) =
    some (.value (.bytes [0x10, 0xF1, 0xDA, 0xB8, 0x00, 0xFF, 0xFF, 0xDF])) := by decide
theorem test_FX4 : result (exec (.filterRead true 0)
    (withCfg (fun c => { c with filters := [⟨0x80000123, 0xC00007FF⟩], filtersSet := true }) bound)) =
    some (.value (.filters [⟨0x123, 0x7FF, .extended, false⟩])) := by decide
theorem test_F2_pair : result (exec (.fltIdExtended ⟨0x98DAF110, 0xDFFFFFFF⟩) bound) =
    some (.value (.filters [⟨0x18DAF110, 0x1FFFFFFF, .extended, false⟩])) := by decide
theorem test_F10_pair : result (exec (.fltIdInvert ⟨0x3FFFFFFF, 0x1FFFFFFF⟩) bound) =
    some (.value (.filters [⟨0x1FFFFFFF, 0x1FFFFFFF, .both, true⟩])) := by decide
theorem test_F1_pair : result (exec (.fltMaskTyped ⟨0x123, 0xC00007FF⟩) bound) =
    some (.value (.filters [⟨0x123, 0x7FF, .standard, false⟩])) := by decide

/-! ### Port -/

theorem test_PO12 : (nextState (exec (.bind (upTo 16 |>.drop 1) .ok) State.reset)).map (·.mode) = some .bound := by decide
theorem test_PO8 : result (exec (.bind [0x63, 0x61, 0x6E, 0x80] .ok) State.reset) = some (.raised .validationError) := by
  decide
/-- Section 9.2: the two sessions ended in ascending order. -/
theorem test_close : acts (exec .close (slots recvSlot { awaitSlot with deadline := 1000001 } .idle)) =
    some [.onMessage (upTo 6) peer0 .genericError, .sendDone peer1 .genericError] := by decide
theorem test_PO17 : result (exec .close closed) = some (.raised .closedError) := by decide
theorem test_CF3 : (nextState (exec (.cfgWrite 2 150000 false 0) State.reset)).map (·.cfg.nCr) = some 150000 := by decide
theorem test_CF4 : result (exec (.cfgWrite 3 256 false 0) State.reset) = some (.raised .validationError) := by decide
theorem test_CF1 : result (exec (.cfgRead 0 false 0) State.reset) = some (.value (.value 4095)) := by decide
theorem test_CF12 : result (exec (.cfgRead 7 false 5) bound) = some (.raised (.systemCallError 5)) := by decide
/-- CF1, CF2 through the rows of group REG. -/
theorem test_reg_read :
    ([.regRxCapacity (.read false 0), .regNBs (.read false 0), .regNCr (.read false 0), .regWftMax (.read false 0),
      .regLocalStmin (.read false 0), .regPadEn (.read false 0), .regPadByte (.read false 0)] : List Instr).map
      (fun i => result (exec i State.reset)) =
    [some (.value (.value 4095)), some (.value (.value 1000000)), some (.value (.value 1000000)),
      some (.value (.value 2)), some (.value (.value 0)), some (.value (.value 0)), some (.value (.value 0))] := by decide
/-- CF8, CF12 through the rows of group REG: what was written reads back. -/
theorem test_reg_pass_through :
    (nextState (exec (.regErrMask (.write 0x1FF true 0)) bound)).map (fun t => regRead t.cfg .errMask) = some 0x1FF ∧
    (nextState (exec (.regLoopback (.write 1 true 0)) bound)).map (fun t => regRead t.cfg .loopback) = some 1 ∧
    result (exec (.regRecvOwn (.write 7 false 0)) bound) = some (.raised .validationError) := by decide

/-- 30_encoding.md R110, at the ends of its four ranges. -/
theorem test_st_decode :
    ([0x00, 0x01, 0x7F, 0x80, 0xF0, 0xF1, 0xF9, 0xFA, 0xFF] : Bytes).map stDecode =
      [0, 1000, 127000, 127000, 127000, 100, 900, 127000, 127000] := by decide

/-! ### Reception -/

/-- Section 7.1, operation 1, through RX_RAW. -/
theorem test_rx_raw : acts (exec (.rxRaw (std 0x07 0xE8 [0x02, 0x11, 0xAA]) (at' 0)) bound) =
    some [.onMessage [0x11, 0xAA] peer0 .ok] := by decide
/-- Section 10.1: the expiry pass stays when the unit is no frame. -/
theorem test_rx_raw_format :
    acts (exec (.rxRaw (zeros 15) (at' 1000000)) (on0 recvSlot)) = some [.onMessage (upTo 6) peer0 .timeoutCr] ∧
    result (exec (.rxRaw (zeros 15) (at' 1000000)) (on0 recvSlot)) = some (.raised .formatError) := by decide
/-- The identifier of a standard frame is the low 11 bits of the word (40_frame_codec.md R145); 7E9 is no channel's. -/
theorem test_frame_std :
    acts (exec (.frameStdData ⟨0x1FFFF7E8, 3, 0, 0, 0, [2, 0x11, 0xAA, 0, 0, 0, 0, 0]⟩ (at' 0)) bound) =
      some [.onMessage [0x11, 0xAA] peer0 .ok] ∧
    acts (exec (.frameStdData ⟨0x7E9, 3, 0, 0, 0, [2, 0x11, 0xAA, 0, 0, 0, 0, 0]⟩ (at' 0)) bound) = some [] := by decide
/-- Section 7.1, operations 10 and 13. -/
theorem test_frame_ext :
    acts (exec (.frameExtData ⟨0x7E8, 3, 0, 0, 0, [2, 0x11, 0xAA, 0, 0, 0, 0, 0]⟩ (at' 0)) bound) = some [] ∧
    acts (exec (.frameExtData ⟨0x18DAF122, 4, 0, 0, 0, [0x55, 2, 0x11, 0xAA, 0, 0, 0, 0]⟩ (at' 0)) bound) =
    some [.onMessage [0x11, 0xAA] peer1 .ok] := by decide
theorem test_frame_remote :
    acts (exec (.frameStdRemote ⟨0x7E8, 3, 0, 0, 0, zeros 8⟩ (at' 0)) bound) = some [] ∧
    acts (exec (.frameExtRemote ⟨0x7E8, 3, 0, 0, 0, zeros 8⟩ (at' 0)) bound) = some [] := by decide
/-- Section 10.1: E4 through the port; the session stays. -/
theorem test_frame_error :
    acts (exec (.frameError false false ⟨4, 8, 0, 0, 0, [0, 0x14, 0, 0, 0, 0, 0, 0]⟩ (at' 5)) (on0 recvSlot)) =
    some [.onErrorFrame ⟨[.controllerError], none, [.rxWarning, .rxPassive], [], none, none⟩] := by decide
/-- E1, E5, E6, E9, E16, E18, E19 through the rows of group ERRFRM. -/
theorem test_err_details :
    acts (exec (.errClassLostArbitration false false ⟨2, 8, 0, 0, 0, [5, 0, 0, 0, 0, 0, 0, 0]⟩ (at' 0)) bound) =
      some [.onErrorFrame ⟨[.lostArbitration], some 5, [], [], none, none⟩] ∧
    acts (exec (.errClassControllerError false false ⟨4, 4, 0, 0, 0, [0, 0x80, 0, 0, 0, 0, 0, 0]⟩ (at' 0)) bound) =
      some [.onErrorFrame ⟨[.controllerError], none, [], [], none, none⟩] ∧
    acts (exec (.errClassProtocolViolation false false ⟨8, 8, 0, 0, 0, [0, 0, 4, 0x0A, 0, 0, 0, 0]⟩ (at' 0)) bound) =
      some [.onErrorFrame ⟨[.protocolViolation], none, [], [.stuff], some .data, none⟩] ∧
    acts (exec (.errClassTransceiverStatus false false ⟨16, 8, 0, 0, 0, [0, 0, 0, 0, 0x50, 0, 0, 0]⟩ (at' 0)) bound) =
      some [.onErrorFrame ⟨[.transceiverStatus], none, [], [], none, some .canlShortToBat⟩] := by decide
theorem test_err_plain :
    acts (exec (.errClassTimeout false false ⟨0xE1, 8, 0, 0, 0, fill 8 0xFF⟩ (at' 0)) bound) =
      some [.onErrorFrame ⟨[.timeout, .noAck, .busOff, .busError], none, [], [], none, none⟩] ∧
    acts (exec (.errClassNoAck false false ⟨0xE0, 8, 0, 0, 0, zeros 8⟩ (at' 0)) bound) =
      some [.onErrorFrame ⟨[.noAck, .busOff, .busError], none, [], [], none, none⟩] ∧
    acts (exec (.errClassBusOff false false ⟨0x40, 8, 0, 0, 0, zeros 8⟩ (at' 0)) bound) =
      some [.onErrorFrame ⟨[.busOff], none, [], [], none, none⟩] ∧
    acts (exec (.errClassBusError false false ⟨0x80, 8, 0, 0, 0, zeros 8⟩ (at' 0)) bound) =
      some [.onErrorFrame ⟨[.busError], none, [], [], none, none⟩] ∧
    acts (exec (.errClassRestarted false false ⟨0x100, 0, 0, 0, 0, zeros 8⟩ (at' 0)) bound) =
      some [.onErrorFrame ⟨[.restarted], none, [], [], none, none⟩] := by decide

/-- Section 7.6, second run. -/
theorem test_sf : acts (exec (.npduSf 0 2 [0xBE, 0xEF] (at' 10)) (on0 recvSlot)) =
    some [.onMessage (upTo 6) peer0 .unexpectedPdu, .onMessage [0xBE, 0xEF] peer0 .ok] := by decide
/-- PD28: on a channel with an extension byte SF_MAX is 6. -/
theorem test_sf_ext : acts (exec (.npduSf 1 7 [1, 2, 3, 4, 5, 6] (at' 0)) bound) = some [] ∧
    acts (exec (.npduSf 1 6 [1, 2, 3, 4, 5, 6] (at' 0)) bound) = some [.onMessage [1, 2, 3, 4, 5, 6] peer1 .ok] := by decide
/-- Section 7.2, first operation. -/
theorem test_ff12 :
    acts (exec (.npduFf12 0 20 (upTo 6) (at' 0)) bound) = some [.txFrame (std 0x07 0xE0 [0x30, 0, 0])] ∧
    slotAfter 0 (exec (.npduFf12 0 20 (upTo 6) (at' 0)) bound) = some recvSlot := by decide
/-- Section 7.10: LOCAL_STMIN and padding on a channel with an extension byte. -/
theorem test_ff12_padded :
    acts (exec (.npduFf12 1 12 [0, 1, 2, 3, 4] (at' 0))
      (withCfg (fun c => { c with localStmin := 0x0A, padEn := true, padByte := 0xCC }) bound)) =
    some [.txFrame (ext1 [0x55, 0x30, 0x00, 0x0A, 0xCC, 0xCC, 0xCC, 0xCC])] := by decide
/-- Section 7.5: 4096 bytes are refused, and taken with a larger capacity. -/
theorem test_ff32 :
    acts (exec (.npduFf32 0 [0, 0, 0x10, 0, 0xAA, 0xBB] (at' 0)) bound) = some [.rxReject peer0 .bufferOverflow] ∧
    (slotAfter 0 (exec (.npduFf32 0 [0, 0, 0x10, 0, 0xAA, 0xBB] (at' 0))
      (withCfg (fun c => { c with rxCapacity := 4096 }) bound))).map (fun sl => (sl.totalLength, sl.buf)) =
    some (4096, [0xAA, 0xBB]) := by decide
/-- Section 7.2, second operation. -/
theorem test_cf : slotAfter 0 (exec (.npduCf 0 1 [6, 7, 8, 9, 10, 11, 12] (at' 10)) (on0 recvSlot)) =
    some { recvSlot with
      bytesTransferred := 13, expectedSequenceNumber := 2, deadline := 1000010, buf := upTo 13 } := by decide
/-- Section 7.2, third operation. -/
theorem test_cf_last : acts (exec (.npduCf 0 2 [13, 14, 15, 16, 17, 18, 19] (at' 20))
    (on0 { recvSlot with bytesTransferred := 13, expectedSequenceNumber := 2, buf := upTo 13 })) =
    some [.onMessage (upTo 20) peer0 .ok] := by decide

/-! ### Sending -/

/-- Section 8.2, second operation. -/
theorem test_cts :
    acts (exec (.npduFcCts 0 [0, 0] (at' 100)) (on0 awaitSlot)) =
      some [.txFrame (std 0x07 0xE0 [0x21, 6, 7, 8, 9, 10, 11, 12])] ∧
    slotAfter 0 (exec (.npduFcCts 0 [0, 0] (at' 100)) (on0 awaitSlot)) = some sendSlot := by decide
/-- Section 8.4, second run: a block of one frame is used up at once. -/
theorem test_cts_block : slotAfter 0 (exec (.npduFcCts 0 [1, 0] (at' 30)) (on0 { awaitSlot with waitFlowControlCount := 2 })) =
    some { awaitSlot with
      bytesTransferred := 13, expectedSequenceNumber := 2, deadline := 1000030, blockSize := 1 } := by decide
/-- Section 8.4, first run. -/
theorem test_wait :
    slotAfter 0 (exec (.npduFcWait 0 [0xFF, 0xFF] (at' 20)) (on0 { awaitSlot with waitFlowControlCount := 1 })) =
      some { awaitSlot with waitFlowControlCount := 2, deadline := 1000020 } ∧
    acts (exec (.npduFcWait 0 [0, 0] (at' 30)) (on0 { awaitSlot with waitFlowControlCount := 2 })) =
      some [.sendDone peer0 .flowControlOverrun] := by decide
/-- Section 8.5. -/
theorem test_fc_aborts :
    acts (exec (.npduFcOverflow 0 [0, 0] (at' 10)) (on0 awaitSlot)) = some [.sendDone peer0 .bufferOverflow] ∧
    acts (exec (.npduFcReserved3 0 [0, 0] (at' 10)) (on0 awaitSlot)) = some [.sendDone peer0 .invalidFlowStatus] ∧
    acts (exec (.npduFcReserved4to7 0 1 [0, 0] (at' 10)) (on0 awaitSlot)) = some [.sendDone peer0 .invalidFlowStatus] ∧
    acts (exec (.npduFcReserved8toF 0 7 [0, 0] (at' 10)) (on0 awaitSlot)) = some [.sendDone peer0 .invalidFlowStatus] := by
  decide
/-- Sections 7.7 and 8.11. -/
theorem test_unknown :
    acts (exec (.npduUnknown4to7 0 0 [] (at' 0)) bound) = some [.onMessage [] peer0 .unexpectedPdu] ∧
    acts (exec (.npduUnknown8toF 0 0x71 [2, 3, 4] (at' 0)) (on0 sendSlot)) ≠ none ∧
    acts (exec (.npduUnknown8toF 0 0x71 [2, 3, 4] (at' 0)) (on0 recvSlot)) =
      some [.onMessage [] peer0 .unexpectedPdu] := by decide
/-- Section 8.2, first operation. -/
theorem test_send :
    acts (exec (.send (upTo 20) peer0 (at' 0)) bound) = some [.txFrame (std 0x07 0xE0 [0x10, 0x14, 0, 1, 2, 3, 4, 5])] ∧
    slotAfter 0 (exec (.send (upTo 20) peer0 (at' 0)) bound) = some awaitSlot := by decide
/-- Section 8.1: an empty message to a channel with an extension byte, padded. -/
theorem test_send_single : acts (exec (.send [] peer1 (at' 0))
    (withCfg (fun c => { c with padEn := true, padByte := 0xAA }) bound)) =
    some [.txFrame (ext1 [0x55, 0x00, 0xAA, 0xAA, 0xAA, 0xAA, 0xAA, 0xAA]), .sendDone peer1 .ok] := by decide
/-- Section 8.3: one time unit before the deadline, and at it. -/
theorem test_tick :
    acts (exec (.tick 10049 []) (on0 blockSlot)) = some [] ∧
    slotAfter 0 (exec (.tick 10050 []) (on0 blockSlot)) =
      some { blockSlot with
        state := .awaitingFlowControl, bytesTransferred := 20, expectedSequenceNumber := 3, timer := .bs,
        deadline := 1010050, blockRemaining := 0 } := by decide
/-- Section 8.2, third operation, and its variant in section 8.7. -/
theorem test_tick_last :
    acts (exec (.tick 100 []) (on0 sendSlot)) =
      some [.txFrame (std 0x07 0xE0 [0x22, 13, 14, 15, 16, 17, 18, 19]), .sendDone peer0 .ok] ∧
    acts (exec (.tick 100 [.timeout]) (on0 sendSlot)) = some [.sendDone peer0 .timeoutA] := by decide

/-- CF14, and the reserved operation selectors. -/
theorem test_reserved :
    nextState (exec (.opReserved12to15 1) bound) = none ∧ nextState (exec (.regReserved10to11 1) bound) = none ∧
    nextState (exec (.regReserved12to15 1) bound) = none ∧ nextState (exec (.cfgWrite 10 0 true 0) bound) = none := by
  decide

/-! ### Memory: the message buffer (20_memory.md R72) -/

theorem test_mem_append : memRead (memWrite (upTo 6) 6 [6, 7]) 0 8 = upTo 8 := by decide

/-! ### Witnesses: states and operands that meet the hypotheses of each statement, one for each clause, at the boundaries
of the ranges. A pair of answers around a boundary shows both sides of an `if`. -/

theorem witness_EncodeResult :
    result (exec (.encode 0x7FF false false (upTo 9)) bound) = some (.raised .validationError) ∧
    result (exec (.encode 0x7FF false false (upTo 8)) bound) =
      some (.value (.bytes [0xFF, 7, 0, 0, 8, 0, 0, 0, 0, 1, 2, 3, 4, 5, 6, 7])) := by decide

theorem witness_DecodeResult :
    result (exec (.decode (zeros 17)) bound) = some (.raised .formatError) ∧
    result (exec (.decode ([0, 0, 0, 0, 9] ++ zeros 11)) bound) = some (.raised .formatError) ∧
    result (exec (.decode ([0xFF, 0xFF, 0xFF, 0x3F, 8] ++ zeros 11)) bound) =
      some (.value (.frame ⟨0x1FFFFFFF, false, false, true, 8, zeros 8⟩)) := by decide

theorem witness_CodecRoundTrip : (upTo 8).length ≤ 8 ∧ ([] : Bytes).length ≤ 8 := by decide

theorem witness_PackUnpack :
    let b : Bytes := [0xFF, 7, 0, 0x40, 8, 0, 0, 0] ++ upTo 8
    b.length = 16 ∧ (b.getD 4 0).toNat ≤ 8 ∧ (b.drop 5).take 3 = [0, 0, 0] ∧
    (unW32 .little (b.take 4)).getLsbD 31 = false ∧ (unW32 .little (b.take 4)).getLsbD 29 = false ∧
    (unW32 .little (b.take 4)).extractLsb' 11 18 = 0 := by decide

theorem witness_FilterApplyResult :
    result (exec (.filterApply [] true 0) closed) = some (.raised .closedError) ∧
    result (exec (.filterApply [] false 9) bound) = some (.raised (.systemCallError 9)) ∧
    result (exec (.filterApply [] true 9) State.reset) = some (.value (.bytes [])) ∧
    512 < (List.replicate 513 (Filter.mk 0 0 .both false)).length ∧
    ¬512 < (List.replicate 512 (Filter.mk 0 0 .both false)).length := by
  rw [List.length_replicate, List.length_replicate]
  decide

theorem witness_FilterReadResult :
    result (exec (.filterRead true 0) closed) = some (.raised .closedError) ∧
    result (exec (.filterRead false 9) bound) = some (.raised (.systemCallError 9)) ∧
    State.reset.cfg.filtersSet = false ∧
    result (exec (.filterRead true 0) (withCfg (fun c => { c with filters := [], filtersSet := true }) bound)) =
      some (.value (.filters [])) := by decide

theorem witness_FilterRoundTrip :
    let filters : List Filter := [⟨0x1FFFFFFF, 0x1FFFFFFF, .standard, true⟩, ⟨0, 0, .both, false⟩]
    bound.mode ≠ .closed ∧ filters.length ≤ 512 ∧
    ∀ f ∈ filters, f.id.toNat < 2 ^ 29 ∧ f.mask.toNat < 2 ^ 29 := by decide

theorem witness_FilterRowsRead :
    Instr.fltIdInvert ⟨0x20000000, 0⟩ ∈
      [Instr.fltIdExtended ⟨0x20000000, 0⟩, .fltIdInvert ⟨0x20000000, 0⟩, .fltMaskTyped ⟨0x20000000, 0⟩] := by decide

/-- Each detail group, and none; a location and a status the table names, and ones it does not. -/
theorem witness_ErrorReportRule :
    let f (id : BitVec 29) (loc st : Byte) : CanFrame := ⟨id, false, false, true, 8, [3, 1, 2, loc, st, 0, 0, 0]⟩
    (f 2 0 0).error = true ∧
    ([(2, 0, 0), (4, 0, 0), (8, 0x19, 0), (8, 0x01, 0), (16, 0, 0x80), (16, 0, 0x81), (0, 0, 0)].map
      fun k : BitVec 29 × Byte × Byte => result (exec (.errDecode (f k.1 k.2.1 k.2.2)) bound)) =
      [some (.value (.report ⟨[.lostArbitration], some 3, [], [], none, none⟩)),
       some (.value (.report ⟨[.controllerError], none, [.rxOverflow], [], none, none⟩)),
       some (.value (.report ⟨[.protocolViolation], none, [], [.format], some .ack, none⟩)),
       some (.value (.report ⟨[.protocolViolation], none, [], [.format], some .unknown, none⟩)),
       some (.value (.report ⟨[.transceiverStatus], none, [], [], none, some .canlShortToCanh⟩)),
       some (.value (.report ⟨[.transceiverStatus], none, [], [], none, some .unknown⟩)),
       some (.value (.report ⟨[], none, [], [], none, none⟩))] := by decide

theorem witness_LostArbitrationReport :
    bound.params.errTable = errTableT0 ∧
    (CanFrame.mk 2 false false true 8 (upTo 8)).error = true ∧ (CanFrame.mk 2 false false true 8 (upTo 8)).id = 2 := by
  decide

theorem witness_ErrDecodeRefused : (CanFrame.mk 2 false false false 8 (upTo 8)).error = false := by decide

theorem witness_BindResult :
    ([(closed, upTo 2, BindRes.ok), (bound, [0x63], .ok), (State.reset, [], .ok), (State.reset, fill 16 0x63, .ok),
      (State.reset, upTo 2, .ok), (State.reset, [0x63], .notFound), (State.reset, [0x63], .sysFail 13),
      (State.reset, fill 15 0x7F, .ok), (State.reset, [0x01], .ok)] : List (State × Bytes × BindRes)).map
      (fun k => (nextState (exec (.bind k.2.1 k.2.2) k.1)).map fun t => (t.mode, t.result)) =
    [some (.closed, .raised .closedError), some (.bound, .raised .alreadyBoundError),
     some (.unbound, .raised .validationError), some (.unbound, .raised .validationError),
     some (.unbound, .raised .validationError), some (.unbound, .raised .notFoundError),
     some (.unbound, .raised (.systemCallError 13)), some (.bound, .noValue), some (.bound, .noValue)] := by decide

theorem witness_CloseResult :
    (on0 recvSlot).slots.length = (on0 recvSlot).params.nCh ∧ State.reset.slots.length = State.reset.params.nCh := by
  decide

/-- The largest legal value of each register, and the value after it. -/
theorem witness_LegalValues :
    ([(.rxCapacity, 2 ^ 32 - 1), (.nBs, 2 ^ 64 - 1), (.nCr, 2 ^ 64 - 1), (.wftMax, 255), (.localStmin, 255), (.padEn, 1),
      (.padByte, 255), (.errMask, 0x1FF), (.loopback, 1), (.recvOwn, 1)] : List (Reg × Nat)).all
      (fun k => regLegal paramsT0 k.1 k.2 && !regLegal paramsT0 k.1 (k.2 + 1)) = true := by decide

/-- The selectors and their registers (30_encoding.md R117). -/
def selectors : List (BitVec 4 × Reg) :=
  [(0, .rxCapacity), (1, .nBs), (2, .nCr), (3, .wftMax), (4, .localStmin), (5, .padEn), (6, .padByte), (7, .errMask),
    (8, .loopback), (9, .recvOwn)]

/-- Selectors 0 and 9, the ends of the ten registers; every branch of the order of checks. -/
theorem witness_CfgWriteResult :
    (0, Reg.rxCapacity) ∈ selectors ∧ (9, Reg.recvOwn) ∈ selectors ∧
    result (exec (.cfgWrite 0 (2 ^ 32) true 0) closed) = some (.raised .closedError) ∧
    result (exec (.cfgWrite 0 (2 ^ 32) true 0) bound) = some (.raised .validationError) ∧
    result (exec (.cfgWrite 9 1 false 7) bound) = some (.raised (.systemCallError 7)) ∧
    (nextState (exec (.cfgWrite 9 1 true 7) bound)).map (fun t => regRead t.cfg .recvOwn) = some 1 ∧
    (nextState (exec (.cfgWrite 0 (2 ^ 32 - 1) false 0) bound)).map (fun t => regRead t.cfg .rxCapacity) =
      some (2 ^ 32 - 1) := by decide

theorem witness_CfgReadResult :
    (0, Reg.rxCapacity) ∈ selectors ∧ (9, Reg.recvOwn) ∈ selectors ∧
    result (exec (.cfgRead 9 true 0) closed) = some (.raised .closedError) ∧
    result (exec (.cfgRead 9 false 7) bound) = some (.raised (.systemCallError 7)) ∧
    result (exec (.cfgRead 0 false 0) bound) = some (.value (.value 4095)) ∧
    result (exec (.cfgRead 8 true 0) (withCfg (fun c => { c with loopback := true, loopbackSet := true }) bound)) =
      some (.value (.value 1)) ∧ bound.cfg.recvOwnSet = false := by decide

/-- Every branch of the order of checks: a closed port, the first value too large, a refused option, the largest value. -/
theorem witness_RegRowsResult :
    ([(closed, Instr.regRecvOwn (.write 2 false 7)), (closed, .regRecvOwn (.read false 7)),
      (bound, .regRecvOwn (.write 2 false 7)), (bound, .regRecvOwn (.write 1 false 7)), (bound, .regRecvOwn (.read false 7)),
      (bound, .regRecvOwn (.write 1 true 7)), (bound, .regRxCapacity (.write (2 ^ 32) false 7)),
      (bound, .regRxCapacity (.write (2 ^ 32 - 1) false 7)), (bound, .regRxCapacity (.read false 7))] :
      List (State × Instr)).map (fun k => result (exec k.2 k.1)) =
    [some (.raised .closedError), some (.raised .closedError), some (.raised .validationError),
     some (.raised (.systemCallError 7)), some (.raised (.systemCallError 7)), some .noValue,
     some (.raised .validationError), some .noValue, some (.value (.value 4095))] := by decide

/-- Selectors 10 and 15. -/
theorem witness_ReservedRefused :
    (10 : Nat) ≤ (10 : BitVec 4).toNat ∧ (10 : Nat) ≤ (15 : BitVec 4).toNat ∧
    (3#2 ++ 0#2 : BitVec 4) = 12 ∧ (5#3 ++ 0#1 : BitVec 4) = 10 ∧ (3#2 ++ 3#2 : BitVec 4) = 15 := by decide

theorem witness_ModeGate :
    portOp .close = true ∧ portOp (.cfgRead 9 true 0) = true ∧ portOp (.npduSf 0 0 [] (at' 0)) = true ∧
    closed.mode = .closed ∧ inboundArgs (.npduSf 0 0 [] (at' 0)) = some (at' 0) ∧ State.reset.mode = .unbound ∧
    result (exec (.send [] peer0 (at' 0)) State.reset) = some (.raised (.systemCallError 7)) := by decide

/-- One operation that binds, one that closes, one that leaves the mode. -/
theorem witness_ModeChanges :
    (∃ t, exec (.bind [0x63] .ok) State.reset = .next t ∧ t.mode = .bound) ∧
    (∃ t, exec .close bound = .next t ∧ t.mode = .closed) ∧ ∃ t, exec (.tick 0 []) bound = .next t ∧ t.mode = .bound :=
  ⟨⟨_, rfl, by decide⟩, ⟨_, rfl, by decide⟩, ⟨_, rfl, by decide⟩⟩

theorem witness_ConfigChanges :
    (∃ t, exec (.tick 0 []) bound = .next t ∧ t.cfg = bound.cfg) ∧
    (∃ t, exec (.regWftMax (.write 9 true 0)) bound = .next t ∧ t.cfg ≠ bound.cfg) ∧
    (∃ t, exec (.cfgWrite 3 9 true 0) bound = .next t ∧ t.cfg ≠ bound.cfg) ∧
    ∃ t, exec (.filterApply [] true 0) bound = .next t ∧ t.cfg ≠ bound.cfg :=
  ⟨⟨_, rfl, by decide⟩, ⟨_, rfl, by decide⟩, ⟨_, rfl, by decide⟩, ⟨_, rfl, by decide⟩⟩

theorem witness_UntimedLeaveSessions :
    ∃ t, exec (.cfgWrite 2 5 true 0) (on0 recvSlot) = .next t ∧ inboundArgs (.cfgWrite 2 5 true 0) = none ∧
      Instr.cfgWrite 2 5 true 0 ≠ .close ∧ (∀ payload peer rx, Instr.cfgWrite 2 5 true 0 ≠ .send payload peer rx) ∧
      ∀ now txo, Instr.cfgWrite 2 5 true 0 ≠ .tick now txo :=
  ⟨_, rfl, rfl, nofun, nofun, nofun⟩

theorem witness_RaisedErrorLeaves :
    (∃ t, exec .close closed = .next t ∧ t.result = .raised .closedError) ∧
    ∃ t, exec (.rxRaw [] (at' 1000000)) (on0 recvSlot) = .next t ∧ t.result = .raised .formatError ∧
      t.slots ≠ (on0 recvSlot).slots :=
  ⟨⟨_, rfl, by decide⟩, ⟨_, rfl, by decide⟩⟩

/-- One time unit before the deadline. -/
theorem witness_TickQuiet : (on0 recvSlot).NoneExpired 999999 := by
  intro c hc
  have h : ∀ c, c < 3 → ((on0 recvSlot).slot c).expired 999999 = false := by decide
  exact h c hc

theorem witness_TickOnlyExpired :
    ((on0 recvSlot).slot 0).expired 999999 = false ∧ ((on0 recvSlot).slot 0).expired 1000000 = true ∧
    ((on0 recvSlot).slot 1).expired 1000000 = false := by decide

/-- A Cr timer and a Bs timer at their deadline, a third slot without a session. -/
theorem witness_TickTimeouts :
    let s := slots recvSlot awaitSlot .idle
    s.slots.length = s.params.nCh ∧
    (∀ c, (s.slot c).expired 1000000 = true → (s.slot c).timer = .bs ∨ (s.slot c).timer = .cr) ∧
    (s.slot 0).expired 1000000 = true ∧ (s.slot 1).expired 1000000 = true := by
  refine ⟨by decide, ?_, by decide, by decide⟩
  intro c h
  match c with
  | 0 => exact .inr rfl
  | 1 => exact .inl rfl
  | n + 2 =>
    match n with
    | 0 => simp [slots, State.slot, Slot.idle, Slot.expired] at h
    | n + 1 => simp [slots, State.slot, Slot.idle, Slot.expired] at h

/-- The last frame of a message, the last of a block, one of the middle of a block; a Cr, an St and a Bs timer that expire
in one pass, and two St timers of which the first frame is lost. -/
theorem witness_TickSendsNext :
    let sending1 : Slot := { blockSlot with blockRemaining := 2 }
    (∀ s ∈ [on0 sendSlot, on0 blockSlot, on0 sending1, slots recvSlot sendSlot .idle, slots sendSlot awaitSlot .idle,
      slots sendSlot sending1 .idle], s.Inv) ∧
    acts (exec (.tick 1000000 []) (slots recvSlot sendSlot .idle)) =
      some [.onMessage (upTo 6) peer0 .timeoutCr, .txFrame (ext1 [0x55, 0x22, 13, 14, 15, 16, 17, 18])] ∧
    acts (exec (.tick 1000000 [.fail]) (slots sendSlot sending1 .idle)) =
      some [.sendDone peer0 .genericError, .txFrame (ext1 [0x55, 0x22, 13, 14, 15, 16, 17, 18])] ∧
    acts (exec (.tick 1000000 [.timeout]) (slots sendSlot awaitSlot .idle)) =
      some [.sendDone peer0 .timeoutA, .sendDone peer1 .timeoutBs] := by decide

theorem witness_ConsecutiveFrameLost :
    (∀ d, d ≠ 0 → ((on0 sendSlot).slot d).expired 100 = false) ∧ (on0 sendSlot).Inv ∧ 0 < (on0 sendSlot).params.nCh ∧
    ((on0 sendSlot).slot 0).expired 100 = true ∧ ((on0 sendSlot).slot 0).timer = .st ∧
    [TxOutcome.fail].headD .done = .fail ∧ [TxOutcome.timeout].headD .done = .timeout ∧
    (let s := on0 awaitSlot
     let e := s.served 999999 [.timeout]
     s.mode = .bound ∧ s.Inv ∧ 0 < s.params.nCh ∧ (s.channel 0).aoff + 3 + (zeros 5).length ≤ 8 ∧
     (e.slot 0).valid = true ∧ (e.slot 0).state = .awaitingFlowControl ∧ e.nextTx = .timeout ∧
     (s.served 999999 [.fail]).nextTx = .fail) := by
  refine ⟨others_unexpired _ _ _ ?_, ?_⟩ <;> decide

/-- SF_MAX bytes and none, on a channel without and on one with an extension byte. -/
theorem witness_SingleFrameDelivered :
    bound.mode = .bound ∧ 0 < bound.params.nCh ∧
    ((bound.channel 0).aoff + 1 + (upTo 7).length ≤ 8 ∧ (7 : BitVec 4).toNat ≤ 7 - (bound.channel 0).aoff ∧
      (7 : BitVec 4).toNat ≤ (upTo 7).length) ∧
    ((bound.channel 1).aoff + 1 + (upTo 6).length ≤ 8 ∧ (6 : BitVec 4).toNat ≤ 7 - (bound.channel 1).aoff ∧
      (6 : BitVec 4).toNat ≤ (upTo 6).length) ∧ (0 : BitVec 4).toNat ≤ ([] : Bytes).length := by decide

/-- The shortest FirstFrame of each form, and the longest of the short one. -/
theorem witness_FirstFrame :
    FirstFrame paramsT0 (.npduFf12 0 8 (upTo 6) (at' 5)) 0 8 (upTo 6) (at' 5) ∧
    FirstFrame paramsT0 (.npduFf12 1 4095 (upTo 5) (at' 5)) 1 4095 (upTo 5) (at' 5) ∧
    FirstFrame paramsT0 (.npduFf32 0 [0, 0, 0x10, 0, 1, 2] (at' 5)) 0 4096 [1, 2] (at' 5) :=
  ⟨.inl ⟨_, _, rfl, by decide⟩, .inl ⟨_, _, rfl, by decide⟩, .inr ⟨_, _, _, _, _, rfl, by decide⟩⟩

/-- A free slot and one whose reception is interrupted; the capacity exactly. -/
theorem witness_FirstFrameStarts :
    FirstFrame paramsT0 (.npduFf12 0 4095 (upTo 6) (at' 5)) 0 4095 (upTo 6) (at' 5) ∧
    ∀ s ∈ [bound, on0 recvSlot],
      s.params = paramsT0 ∧ s.mode = .bound ∧ 0 < s.params.nCh ∧ s.slots.length = s.params.nCh ∧
      (s.peer 0).taType = .physical ∧ 4095 ≤ s.cfg.rxCapacity.toNat ∧
      ¬(((s.served 5 []).slot 0).valid = true ∧ ((s.served 5 []).slot 0).direction = .sending) ∧
      (s.served 5 []).nextTx = .done :=
  ⟨.inl ⟨_, _, rfl, by decide⟩, by decide⟩

/-- The functional channel; one byte beyond the capacity; a sending session. -/
theorem witness_FirstFrameNotStarted :
    (FirstFrame paramsT0 (.npduFf12 2 20 (upTo 6) (at' 5)) 2 20 (upTo 6) (at' 5) ∧ (bound.peer 2).taType = .functional ∧
      2 < bound.params.nCh ∧ bound.mode = .bound) ∧
    (FirstFrame paramsT0 (.npduFf32 0 [0, 0, 0x10, 0, 1, 2] (at' 5)) 0 4096 [1, 2] (at' 5) ∧
      (bound.peer 0).taType = .physical ∧ bound.cfg.rxCapacity.toNat < 4096) ∧
    FirstFrame paramsT0 (.npduFf12 0 4095 (upTo 6) (at' 5)) 0 4095 (upTo 6) (at' 5) ∧
    (on0 awaitSlot).mode = .bound ∧ 4095 ≤ (on0 awaitSlot).cfg.rxCapacity.toNat ∧
    (((on0 awaitSlot).served 5 []).slot 0).valid = true ∧
    (((on0 awaitSlot).served 5 []).slot 0).direction = .sending :=
  ⟨⟨.inl ⟨_, _, rfl, by decide⟩, by decide⟩, ⟨.inr ⟨_, _, _, _, _, rfl, by decide⟩, by decide⟩,
    .inl ⟨_, _, rfl, by decide⟩, by decide⟩

theorem witness_FirstFrameAnswerLost :
    FirstFrame paramsT0 (.npduFf12 0 8 (upTo 6) ⟨5, [.fail], 0⟩) 0 8 (upTo 6) ⟨5, [.fail], 0⟩ ∧
    FirstFrame paramsT0 (.npduFf12 0 8 (upTo 6) ⟨5, [.timeout], 0⟩) 0 8 (upTo 6) ⟨5, [.timeout], 0⟩ ∧
    ∀ s ∈ [bound, on0 recvSlot],
      s.params = paramsT0 ∧ s.mode = .bound ∧ 0 < s.params.nCh ∧ s.slots.length = s.params.nCh ∧
      (s.peer 0).taType = .physical ∧ 8 ≤ s.cfg.rxCapacity.toNat ∧
      ¬(((s.served 5 [.fail]).slot 0).valid = true ∧ ((s.served 5 [.fail]).slot 0).direction = .sending) ∧
      ¬(((s.served 5 [.timeout]).slot 0).valid = true ∧ ((s.served 5 [.timeout]).slot 0).direction = .sending) ∧
      (s.served 5 [.fail]).nextTx = .fail ∧ (s.served 5 [.timeout]).nextTx = .timeout :=
  ⟨.inl ⟨_, _, rfl, by decide⟩, .inl ⟨_, _, rfl, by decide⟩, by decide⟩

/-- No session, the wrong number, too short, completing, and stored. -/
theorem witness_ConsecutiveFrameHandled :
    let almost : Slot := { recvSlot with totalLength := 7 }
    (∀ s ∈ [bound, on0 recvSlot, on0 almost], s.Inv ∧ s.mode = .bound ∧ 0 < s.params.nCh) ∧
    (∀ rest ∈ [upTo 1, upTo 7], rest ≠ [] ∧ (bound.channel 0).aoff + 1 + rest.length ≤ 8) ∧
    ([(bound, (1 : BitVec 4), upTo 7), (on0 recvSlot, 2, upTo 7), (on0 recvSlot, 1, upTo 6), (on0 recvSlot, 1, upTo 7),
      (on0 almost, 1, upTo 1)].map fun k => acts (exec (.npduCf 0 k.2.1 k.2.2 (at' 9)) k.1)) =
      [some [.onMessage [] peer0 .unexpectedPdu], some [.onMessage (upTo 6) peer0 .wrongSequenceNumber], some [],
       some [], some [.onMessage (upTo 6 ++ [0]) peer0 .ok]] := by decide

theorem witness_UnknownReported :
    (on0 awaitSlot).mode = .bound ∧ 0 < (on0 awaitSlot).params.nCh ∧
    ((on0 awaitSlot).channel 0).aoff + 1 + (upTo 7).length ≤ 8 ∧
    ((on0 awaitSlot).channel 1).aoff + 1 + (upTo 6).length ≤ 8 := by decide

/-- Each kind of frame that does not parse, on channel 0, at the boundary of the rule it breaks. -/
theorem witness_InvalidIgnored :
    bound.mode = .bound ∧ 0 < bound.params.nCh ∧ (bound.channel 0).aoff = 0 ∧
    (0 + 1 + (upTo 7).length ≤ 8 ∧ 7 - 0 < (8 : BitVec 4).toNat) ∧
    (0 + 1 + (upTo 2).length ≤ 8 ∧ (upTo 2).length < (3 : BitVec 4).toNat) ∧
    (0 + 2 + (upTo 5).length ≤ 8 ∧ 0 + 2 + (upTo 5).length < 8) ∧
    (0 + 2 + (upTo 6).length ≤ 8 ∧ (7 : BitVec 12).toNat ≤ 7 - 0) ∧
    (let rest : Bytes := [0, 0, 0x0F, 0xFF, 1, 2]
     0 + 2 + rest.length ≤ 8 ∧ rest.getD 0 0 = 0 ∧ rest.getD 1 0 = 0 ∧ (rest.getD 2 0).toNat < 16) ∧
    (upTo 1).length < 2 := by decide

theorem witness_FlowControlUnexpected :
    ∀ s ∈ [bound, on0 recvSlot, on0 sendSlot],
      s.mode = .bound ∧ 0 < s.params.nCh ∧ 2 ≤ (upTo 2).length ∧ (s.channel 0).aoff + 1 + (upTo 2).length ≤ 8 ∧
      (((s.served 5 []).slot 0).valid = false ∨ ((s.served 5 []).slot 0).state ≠ .awaitingFlowControl) := by decide

theorem witness_ContinueToSend :
    (on0 awaitSlot).Inv ∧ (on0 awaitSlot).mode = .bound ∧ 0 < (on0 awaitSlot).params.nCh ∧
    ((on0 awaitSlot).channel 0).aoff + 3 + (zeros 5).length ≤ 8 ∧
    (((on0 awaitSlot).served 999999 []).slot 0).valid = true ∧
    (((on0 awaitSlot).served 999999 []).slot 0).state = .awaitingFlowControl ∧
    ((on0 awaitSlot).served 999999 []).nextTx = .done := by decide

/-- The last Wait that is tolerated, and the one that is not. -/
theorem witness_WaitHandled :
    ∀ k ∈ [(on0 { awaitSlot with waitFlowControlCount := 1 }, false), (on0 { awaitSlot with waitFlowControlCount := 2 }, true)],
      let sl := (k.1.served 5 []).slot 0
      k.1.Inv ∧ k.1.mode = .bound ∧ 0 < k.1.params.nCh ∧ 2 ≤ (upTo 2).length ∧
      (k.1.channel 0).aoff + 1 + (upTo 2).length ≤ 8 ∧ sl.valid = true ∧ sl.state = .awaitingFlowControl ∧
      decide (k.1.cfg.wftMax.toNat < sl.waitFlowControlCount + 1) = k.2 := by decide

theorem witness_FlowControlAborts :
    (on0 awaitSlot).Inv ∧ (on0 awaitSlot).mode = .bound ∧ 0 < (on0 awaitSlot).params.nCh ∧ 2 ≤ (upTo 7).length ∧
    ((on0 awaitSlot).channel 0).aoff + 1 + (upTo 7).length ≤ 8 ∧
    (((on0 awaitSlot).served 5 []).slot 0).valid = true ∧
    (((on0 awaitSlot).served 5 []).slot 0).state = .awaitingFlowControl := by decide

/-- No channel, and channel 0's SingleFrame, standard and extended. -/
theorem witness_FrameRows :
    let b : ImgBody := ⟨0x7E8, 8, 0, 0, 0, [1, 9, 0, 0, 0, 0, 0, 0]⟩
    let b1 : ImgBody := ⟨0x18DAF122, 8, 0, 0, 0, [0x55, 1, 9, 0, 0, 0, 0, 0]⟩
    bound.mode = .bound ∧ b.len.toNat ≤ 8 ∧ b1.len.toNat ≤ 8 ∧
    bound.params.lookup ⟨0x7E8, true, false, false, 8, b.payload⟩ = none ∧
    bound.params.lookup ⟨0x7E8, false, false, false, 8, b.payload⟩ = some 0 ∧
    pduDecode (bound.channel 0) ⟨0x7E8, false, false, false, 8, b.payload⟩ = .sf [9] ∧
    bound.params.lookup ⟨0x18DAF122, true, false, false, 8, b1.payload⟩ = some 1 ∧
    pduDecode (bound.channel 1) ⟨0x18DAF122, true, false, false, 8, b1.payload⟩ = .sf [9] := by decide

theorem witness_ErrorFramesReported :
    let b : ImgBody := ⟨0x100, 8, 0, 0, 0, zeros 8⟩
    bound.mode = .bound ∧ b.len.toNat ≤ 8 ∧ bound.params.errTable = errTableT0 ∧
    (Instr.errClassRestarted false false b (at' 0)).wellFormed = true := by decide

/-- The first size too large of each kind, on a channel without and on one with an extension byte. -/
theorem witness_FormatErrorAfterExpiry :
    bound.mode = .bound ∧ (zeros 15).length ≠ 16 ∧ 8 < (([0, 0, 0, 0, 9] ++ zeros 11 : Bytes).getD 4 0).toNat ∧
    8 < (ImgBody.mk 0 9 0 0 0 (zeros 8)).len.toNat ∧
    8 < (bound.channel 0).aoff + 1 + (zeros 8).length ∧ 8 < (bound.channel 1).aoff + 1 + (zeros 7).length ∧
    8 < (bound.channel 0).aoff + 2 + (zeros 7).length ∧ 8 < (bound.channel 1).aoff + 2 + (zeros 6).length ∧
    result (exec (.npduFcReserved8toF 1 0 (zeros 7) (at' 0)) bound) = some (.raised .formatError) ∧
    result (exec (.npduFf32 1 (zeros 6) (at' 0)) bound) = some (.raised .formatError) := by decide

/-- An error frame, a remote frame, a frame of no channel; an invalid, a single and an unknown frame of channel 0. -/
theorem witness_RxRawResult :
    let u (b : Bytes) := unpack bound.params.wordOrder b
    let frames := [[0x40, 0, 0, 0x20, 8, 0, 0, 0] ++ zeros 8, [0xE8, 7, 0, 0x40, 8, 0, 0, 0] ++ zeros 8,
      std 7 0xE9 (zeros 8), std 7 0xE8 [], std 7 0xE8 [0], std 7 0xE8 [0x40]]
    (∀ b ∈ frames, b.length = 16 ∧ (b.getD 4 0).toNat ≤ 8) ∧ bound.mode = .bound ∧
    frames.map (fun b => ((u b).error, (u b).remoteRequest, bound.params.lookup (u b))) =
      [(true, false, none), (false, true, some 0), (false, false, none), (false, false, some 0), (false, false, some 0),
       (false, false, some 0)] ∧
    frames.map (fun b => pduDecode (bound.channel 0) (u b)) =
      [.sf [], .sf [], .sf [], .invalid, .sf [], .unknownType 4] := by decide

theorem witness_RxRawIsItsRow :
    (Format.img = .img ∨ Format.img = .errfrm) ∧
    decode bound.params.wordOrder ⟨.img, std 7 0xE8 [1, 9], {}⟩ =
      .ok (.frameStdData ⟨0x7E8, 2, 0, 0, 0, [1, 9, 0, 0, 0, 0, 0, 0]⟩ none0) ∧
    decode bound.params.wordOrder ⟨.errfrm, [0x40, 0, 0, 0x20, 8, 0, 0, 0] ++ zeros 8, {}⟩ =
      .ok (.errClassBusOff false false ⟨0x40, 8, 0, 0, 0, zeros 8⟩ none0) := by decide

/-- The longest frame of a channel without and of one with an extension byte. -/
theorem witness_NpduRowIsItsFrame :
    bound.params.wf = true ∧ 0 < bound.params.nCh ∧ 1 < bound.params.nCh ∧
    decode bound.params.wordOrder ⟨.npdu, 0x10 :: 0x14 :: upTo 6, { channel := 0 }⟩ =
      .ok (.npduFf12 0 20 (upTo 6) none0) ∧ (bound.channel 0).aoff + (0x10 :: 0x14 :: upTo 6).length ≤ 8 ∧
    decode bound.params.wordOrder ⟨.npdu, 0x06 :: upTo 6, { channel := 1 }⟩ = .ok (.npduSf 1 6 (upTo 6) none0) ∧
    (bound.channel 1).aoff + (0x06 :: upTo 6).length ≤ 8 := by decide

/-- SF_MAX bytes, with and without an extension byte, on a functional channel too; the three answers. -/
theorem witness_SendSingle :
    bound.mode = .bound ∧ bound.params.chan peer0 = some 0 ∧ (upTo 7).length ≤ 7 - (bound.channel 0).aoff ∧
    bound.params.chan peer1 = some 1 ∧ (upTo 6).length ≤ 7 - (bound.channel 1).aoff ∧
    bound.params.chan peer2 = some 2 ∧ (upTo 7).length ≤ 7 - (bound.channel 2).aoff ∧
    (bound.served 0 []).nextTx = .done ∧ (bound.served 0 [.fail]).nextTx = .fail ∧
    (bound.served 0 [.timeout]).nextTx = .timeout := by decide

/-- One byte more than SF_MAX; the last length of the short form; the first of the long one. -/
theorem witness_SendStarts :
    (bound.mode = .bound ∧ bound.slots.length = bound.params.nCh ∧ bound.params.chan peer0 = some 0 ∧
      bound.params.chan peer1 = some 1 ∧ peer0.taType = .physical ∧ peer1.taType = .physical ∧
      ((bound.served 0 []).slot 0).valid = false ∧ ((bound.served 0 []).slot 1).valid = false ∧
      (bound.served 0 []).nextTx = .done ∧ (bound.served 0 [.fail]).nextTx = .fail ∧
      (bound.served 0 [.timeout]).nextTx = .timeout) ∧
    (7 - (bound.channel 0).aoff < (upTo 8).length ∧ (upTo 8).length ≤ 4095) ∧
    (7 - (bound.channel 1).aoff < (upTo 7).length ∧ (upTo 7).length ≤ 4095) ∧
    (∀ n ∈ [4095, 4096], 7 - (bound.channel 0).aoff < (List.replicate n (0 : Byte)).length ∧
      (List.replicate n (0 : Byte)).length ≤ 4294967295) := by
  refine ⟨by decide, by decide, by decide, fun n hn => ?_⟩
  rw [List.length_replicate]
  revert n
  decide

theorem witness_SendBusy :
    ∀ s ∈ [on0 awaitSlot, on0 recvSlot],
      s.mode = .bound ∧ s.params.chan peer0 = some 0 ∧ 7 - (s.channel 0).aoff < (upTo 8).length ∧
      (upTo 8).length ≤ 4294967295 ∧ peer0.taType = .physical ∧ ((s.served 5 []).slot 0).valid = true := by decide

/-- No channel; a message too long; a long message to the functional channel. -/
theorem witness_SendRefused :
    bound.mode = .bound ∧ bound.params.chan peer9 = none ∧
    4294967295 < (List.replicate 4294967296 (0 : Byte)).length ∧
    bound.params.chan peer2 = some 2 ∧ 7 - (bound.channel 2).aoff < (upTo 8).length ∧ peer2.taType = .functional := by
  refine ⟨by decide, by decide, ?_, by decide⟩
  rw [List.length_replicate]
  decide

theorem witness_OtherSlots :
    npduRow (.npduSf 1 0 [] (at' 5)) = some (1, at' 5) ∧ bound.params.chan peer1 = some 1 ∧
    (∃ t, exec (.npduSf 1 0 [] (at' 5)) (on0 recvSlot) = .next t) ∧
    (∃ t, exec (.send [] peer1 (at' 5)) (on0 recvSlot) = .next t) ∧
    (0 : Nat) ≠ 1 ∧ ((on0 recvSlot).slot 0).expired 5 = false :=
  ⟨rfl, by decide, ⟨_, rfl⟩, ⟨_, rfl⟩, by decide, by decide⟩

/-- At the deadline: a reception, and a session that awaits FlowControl. -/
theorem witness_TimeoutBeatsFrame :
    ∀ k ∈ [(recvSlot, SessionState.accumulatingFF), (awaitSlot, .awaitingFlowControl)],
      let s := on0 k.1
      s.Inv ∧ s.mode = .bound ∧ 0 < s.params.nCh ∧ upTo 1 ≠ [] ∧ 2 ≤ (upTo 2).length ∧
      (s.channel 0).aoff + 1 + (upTo 2).length ≤ 8 ∧ (s.slot 0).expired 1000000 = true ∧
      (∀ d, d ≠ 0 → (s.slot d).expired 1000000 = false) ∧ (s.slot 0).state = k.2 := by
  intro k hk
  refine ⟨?_, ?_, ?_, ?_, ?_, ?_, ?_, others_unexpired _ _ _ ?_, ?_⟩ <;> revert k <;> decide

/-- Section 7.2: 20 bytes, six of them in the FirstFrame. -/
theorem witness_Reassembly :
    let s := on0 recvSlot
    let sl := s.slot 0
    let n := 7 - (s.channel 0).aoff
    let init : List (Bytes × RxArgs) := [([6, 7, 8, 9, 10, 11, 12], at' 999999)]
    let last : Bytes × RxArgs := ([13, 14, 15, 16, 17, 18, 19], at' 1999998)
    s.Inv ∧ 0 < s.params.nCh ∧ sl.valid = true ∧ sl.state = .accumulatingFF ∧ (∀ f ∈ init, f.1.length = n) ∧
    1 ≤ last.1.length ∧ last.1.length ≤ n ∧ sl.buf.length + init.length * n < sl.totalLength ∧
    sl.totalLength ≤ sl.buf.length + init.length * n + last.1.length ∧
    onTime s.cfg.nCr.toNat sl.deadline (init ++ [last]) = true := by decide

/-- Section 8.2 from its second operation on, with blocks of one frame: two ContinueToSend, each just before its Bs deadline;
and its third operation, one TICK at the St deadline. -/
theorem witness_Segmentation :
    (let s := on0 awaitSlot
     let sl := s.slot 0
     let turns : List Turn := [⟨1, 0, at' 999999⟩, ⟨1, 0, at' 1999998⟩]
     s.Inv ∧ 0 < s.params.nCh ∧ sl.valid = true ∧ sl.direction = .sending ∧
     (∀ t ∈ turns, t.rx.txo.headD .done = .done) ∧
     sl.totalLength ≤ sl.bytesTransferred + turns.length * (7 - (s.channel 0).aoff) ∧
     sl.bytesTransferred + turns.length * (7 - (s.channel 0).aoff) < sl.totalLength + (7 - (s.channel 0).aoff) ∧
     turnsTimely 0 turns s = true) ∧
    (let s := on0 sendSlot
     s.Inv ∧ turnsTimely 0 [⟨0, 0, at' 100⟩] s = true ∧ (s.slot 0).direction = .sending ∧
     (s.slot 0).totalLength ≤ (s.slot 0).bytesTransferred + 1 * (7 - (s.channel 0).aoff)) ∧
    (∀ now, now ∈ [999999, 1999998] → ∀ d, d ≠ 0 → ((on0 awaitSlot).slot d).expired now = false) := by
  refine ⟨by decide, by decide, fun now hn => others_unexpired _ _ _ ?_⟩
  revert now
  decide

/-- The largest data of each builder, without and with an extension byte. -/
theorem witness_TransportRoundTrip :
    ∀ c ∈ [0, 1],
      let ch := paramsT0.channel c
      ch.wf = true ∧ (zeros ch.sfMax).length ≤ ch.sfMax ∧ ch.sfMax < ch.sfMax + 1 ∧
      (zeros (ch.ffData 4095)).length = ch.ffData 4095 ∧ (zeros (ch.ffData 4096)).length = ch.ffData 4096 ∧
      1 ≤ (zeros ch.cfData).length ∧ (zeros ch.cfData).length ≤ ch.cfData := by decide

/-- Nothing issued; an operation issued; a request that is no encoding. -/
theorem witness_StepRuns :
    State.reset.pending = [] ∧
    ({ State.reset with pending := [⟨.op, [0x06], {}⟩] } : State).pending = ⟨.op, [0x06], {}⟩ :: [] ∧
    decode State.reset.params.wordOrder ⟨.op, [0x06], {}⟩ = .ok .close ∧
    decode State.reset.params.wordOrder ⟨.op, [0x16], {}⟩ = .rejected .badSelector := by decide

theorem witness_StepKeepsInv :
    let s : State := { on0 recvSlot with pending := [⟨.npdu, 0x21 :: upTo 7, {}⟩] }
    s.Inv ∧ ∃ t, step s = .next t :=
  ⟨by decide, ⟨_, rfl⟩⟩

theorem witness_DecodeEncode :
    (Instr.npduFf12 1 0xFFF (upTo 6) (at' 5)).wellFormed = true ∧
    (Instr.errClassBusError true true { okImg with word := 0x1FFFFF80 } (at' 5)).wellFormed = true ∧
    (Instr.fltMaskTyped ⟨0x1FFFFFFF, 0xFFFFFFFF⟩).wellFormed = true := by decide

end Sys2Proof.Tests
end

