-- ==== Sys2Proof/Proofs/FrameCodec.lean ====
section
/-! PROOFS. The frame codec (40_frame_codec.md): the word of a frame bit by bit, images and back, the two operations, and
the obligations about them. -/

namespace Sys2Proof.Machine

/-! ### Masks and flags, bit by bit (30_encoding.md R86, R87) -/

theorem effMask_eq : effMask = (BitVec.allOnes 29).setWidth 32 := by decide

theorem sffMask_eq : sffMask = (BitVec.allOnes 11).setWidth 32 := by decide

theorem getLsbD_and_effMask (v : Word) (i : Nat) : (v &&& effMask).getLsbD i = (v.getLsbD i && decide (i < 29)) := by
  have hv : 32 ≤ i → v.getLsbD i = false := BitVec.getLsbD_of_ge v i
  simp only [effMask_eq, BitVec.getLsbD_and, BitVec.getLsbD_setWidth, BitVec.getLsbD_allOnes]
  grind

theorem getLsbD_and_sffMask (v : Word) (i : Nat) : (v &&& sffMask).getLsbD i = (v.getLsbD i && decide (i < 11)) := by
  have hv : 32 ≤ i → v.getLsbD i = false := BitVec.getLsbD_of_ge v i
  simp only [sffMask_eq, BitVec.getLsbD_and, BitVec.getLsbD_setWidth, BitVec.getLsbD_allOnes]
  grind

/-- An extended identifier keeps its 29 bits, a standard one its 11. -/
theorem getLsbD_maskId (v : Word) (extended : Bool) (i : Nat) :
    (maskId v extended).getLsbD i = (v.getLsbD i && decide (i < 29) && (extended || decide (i < 11))) := by
  unfold maskId
  cases extended
  · rw [if_neg Bool.false_ne_true, getLsbD_and_sffMask]
    grind
  · rw [if_pos rfl, getLsbD_and_effMask]
    simp

/-- The 29 identifier bits of a frame hold all that `maskId` keeps. -/
theorem maskId_setWidth (v : Word) (extended : Bool) : ((maskId v extended).setWidth 29).setWidth 32 = maskId v extended := by
  apply BitVec.eq_of_getLsbD_eq
  intro i hi
  simp only [BitVec.getLsbD_setWidth, getLsbD_maskId]
  grind

/-- Masking twice is masking once (40_frame_codec.md R151). -/
theorem maskId_maskId (v : Word) (extended : Bool) : maskId (maskId v extended) extended = maskId v extended := by
  apply BitVec.eq_of_getLsbD_eq
  intro i hi
  simp only [getLsbD_maskId]
  grind

theorem getLsbD_flagIf (b : Bool) (flag : Word) (i : Nat) : (flagIf b flag).getLsbD i = (b && flag.getLsbD i) := by
  cases b <;> simp [flagIf]

theorem effFlag_eq : effFlag = BitVec.twoPow 32 31 := by decide

theorem rtrFlag_eq : rtrFlag = BitVec.twoPow 32 30 := by decide

theorem errFlag_eq : errFlag = BitVec.twoPow 32 29 := by decide

/-! ### The word of a frame (30_encoding.md R88) -/

theorem getLsbD_packId (f : CanFrame) (i : Nat) :
    (packId f).getLsbD i = (f.id.getLsbD i && (f.error || f.extended || decide (i < 11))) := by
  have hid : 29 ≤ i → f.id.getLsbD i = false := BitVec.getLsbD_of_ge f.id i
  unfold packId
  cases f.error
  · rw [if_neg Bool.false_ne_true, getLsbD_maskId, BitVec.getLsbD_setWidth]
    grind
  · rw [if_pos rfl, getLsbD_and_effMask, BitVec.getLsbD_setWidth]
    grind

/-- The four fields of the word do not overlap (40_frame_codec.md R151). -/
theorem getLsbD_packWord (f : CanFrame) (i : Nat) :
    (packWord f).getLsbD i =
      ((packId f).getLsbD i || (f.extended && decide (i = 31)) || (f.remoteRequest && decide (i = 30)) ||
        (f.error && decide (i = 29))) := by
  simp only [packWord, BitVec.getLsbD_or, getLsbD_flagIf, effFlag_eq, rtrFlag_eq, errFlag_eq, BitVec.getLsbD_twoPow]
  grind

theorem packId_no_flags (f : CanFrame) (i : Nat) (hi : 29 ≤ i) : (packId f).getLsbD i = false := by
  rw [getLsbD_packId, BitVec.getLsbD_of_ge f.id i hi, Bool.false_and]

theorem packWord_extended (f : CanFrame) : (packWord f).getLsbD 31 = f.extended := by
  rw [getLsbD_packWord, packId_no_flags f _ (by decide)]
  simp

theorem packWord_remoteRequest (f : CanFrame) : (packWord f).getLsbD 30 = f.remoteRequest := by
  rw [getLsbD_packWord, packId_no_flags f _ (by decide)]
  simp

theorem packWord_error (f : CanFrame) : (packWord f).getLsbD 29 = f.error := by
  rw [getLsbD_packWord, packId_no_flags f _ (by decide)]
  simp

theorem packWord_id (f : CanFrame) (i : Nat) (hi : i < 29) : (packWord f).getLsbD i = (packId f).getLsbD i := by
  rw [getLsbD_packWord]
  grind

theorem getLsbD_unpackId (w : Word) (i : Nat) :
    (unpackId w).getLsbD i =
      (w.getLsbD i && decide (i < 29) && (w.getLsbD 29 || w.getLsbD 31 || decide (i < 11))) := by
  unfold unpackId
  cases w.getLsbD 29
  · rw [if_neg Bool.false_ne_true, BitVec.getLsbD_setWidth, getLsbD_maskId]
    grind
  · rw [if_pos rfl, BitVec.getLsbD_setWidth, getLsbD_and_effMask]
    grind

/-- The identifier of a word as a bit field: 29 bits of an extended or an error frame, else 11. -/
theorem unpackId_eq_extract (w : Word) :
    unpackId w =
      if w.getLsbD 29 || w.getLsbD 31 then w.extractLsb' 0 29 else (w.extractLsb' 0 11).setWidth 29 := by
  apply BitVec.eq_of_getLsbD_eq
  intro i hi
  rw [getLsbD_unpackId]
  cases w.getLsbD 29 || w.getLsbD 31
  · rw [if_neg Bool.false_ne_true, BitVec.getLsbD_setWidth, BitVec.getLsbD_extractLsb']
    grind
  · rw [if_pos rfl, BitVec.getLsbD_extractLsb']
    grind

/-- The identifier read from a frame's word is the frame's masked identifier. -/
theorem unpackId_packWord (f : CanFrame) : unpackId (packWord f) = (packId f).setWidth 29 := by
  apply BitVec.eq_of_getLsbD_eq
  intro i hi
  rw [getLsbD_unpackId, packWord_error, packWord_extended, packWord_id f i hi, BitVec.getLsbD_setWidth, getLsbD_packId]
  grind

/-- UnpackWord after PackWord: only the identifier is masked. -/
theorem unpackWord_packWord (f : CanFrame) :
    unpackWord (packWord f) f.length f.payload = { f with id := (packId f).setWidth 29 } := by
  simp only [unpackWord, unpackId_packWord, packWord_extended, packWord_remoteRequest, packWord_error]

/-! ### Words and bytes (00_scope.md R14) -/

@[simp] theorem length_w32 (wo : WordOrder) (w : Word) : (w32 wo w).length = 4 := by
  cases wo <;> rfl

/-- The four bytes of a word, put together again. -/
theorem wordOf_extract (w : Word) :
    wordOf (w.extractLsb' 24 8) (w.extractLsb' 16 8) (w.extractLsb' 8 8) (w.extractLsb' 0 8) = w := by
  apply BitVec.eq_of_getLsbD_eq
  intro i hi
  simp only [wordOf, BitVec.getLsbD_append, BitVec.getLsbD_extractLsb']
  grind

/-- A word written and read in one byte order is the word (20_memory.md R61). -/
@[simp] theorem unW32_w32 (wo : WordOrder) (w : Word) : unW32 wo (w32 wo w) = w := by
  cases wo <;> exact wordOf_extract w

/-! ### Images (40_frame_codec.md R149) -/

@[simp] theorem length_pack (wo : WordOrder) (f : CanFrame) : (pack wo f).length = 8 + f.payload.length := by
  simp [pack, zeros]
  omega

theorem take_pack (wo : WordOrder) (f : CanFrame) : (pack wo f).take 4 = w32 wo (packWord f) := by
  simp only [pack, List.append_assoc]
  exact List.take_left' (length_w32 wo _)

theorem drop_pack (wo : WordOrder) (f : CanFrame) : (pack wo f).drop 8 = f.payload :=
  List.drop_left' (by simp [zeros])

theorem byteAt_pack (wo : WordOrder) (f : CanFrame) : byteAt (pack wo f) 4 = BitVec.ofNat 8 f.length := by
  simp [byteAt, pack]

theorem toNat_byteAt_pack (wo : WordOrder) (f : CanFrame) (h : f.length ≤ maxData) :
    (byteAt (pack wo f) 4).toNat = f.length := by
  rw [byteAt_pack, BitVec.toNat_ofNat]
  exact Nat.mod_eq_of_lt (by simp only [maxData] at h; omega)

/-- Unpack after Pack: only the identifier is masked. -/
theorem unpack_pack (wo : WordOrder) (f : CanFrame) (h : f.length ≤ maxData) :
    unpack wo (pack wo f) = { f with id := (packId f).setWidth 29 } := by
  rw [unpack, take_pack, drop_pack, unW32_w32, toNat_byteAt_pack wo f h, unpackWord_packWord]

/-- The image of a frame with full payload storage passes both checks of DECODE. -/
theorem decodeImage_pack (wo : WordOrder) (f : CanFrame) (hlen : f.length ≤ maxData) (hpay : f.payload.length = maxData) :
    decodeImage wo (pack wo f) = some { f with id := (packId f).setWidth 29 } := by
  have hsize : ¬ (pack wo f).length ≠ frameSize := by simp [hpay, maxData, frameSize]
  have hbyte : ¬ maxData < (byteAt (pack wo f) 4).toNat := by
    rw [toNat_byteAt_pack wo f hlen]
    exact Nat.not_lt.mpr hlen
  rw [decodeImage, if_neg hsize, if_neg hbyte, unpack_pack wo f hlen]

/-! ### The frame ENCODE builds (40_frame_codec.md R141) -/

section EncodedFrame

variable (id : Word) (extended remoteRequest : Bool) (payload : Bytes)

theorem packId_encodedFrame : packId (encodedFrame id extended remoteRequest payload) = maskId id extended := by
  change maskId (((maskId id extended).setWidth 29).setWidth 32) extended = maskId id extended
  rw [maskId_setWidth, maskId_maskId]

theorem packWord_encodedFrame :
    packWord (encodedFrame id extended remoteRequest payload) =
      maskId id extended ||| flagIf extended effFlag ||| flagIf remoteRequest rtrFlag := by
  rw [packWord, packId_encodedFrame]
  exact BitVec.or_zero

/-- ENCODE's image, byte by byte. -/
theorem encodeImage_eq (wo : WordOrder) :
    encodeImage wo id extended remoteRequest payload =
      w32 wo (maskId id extended ||| flagIf extended effFlag ||| flagIf remoteRequest rtrFlag) ++
        [BitVec.ofNat 8 payload.length] ++ zeros 3 ++ (payload ++ zeros (maxData - payload.length)) := by
  rw [encodeImage, pack, packWord_encodedFrame]
  rfl

theorem length_encodedFrame_payload (h : payload.length ≤ maxData) :
    (encodedFrame id extended remoteRequest payload).payload.length = maxData := by
  simp [encodedFrame, zeros, h]

/-- DECODE of ENCODE's image gives ENCODE's frame (40_frame_codec.md R148). -/
theorem decodeImage_encodeImage (wo : WordOrder) (h : payload.length ≤ maxData) :
    decodeImage wo (encodeImage wo id extended remoteRequest payload) =
      some (encodedFrame id extended remoteRequest payload) := by
  rw [encodeImage, decodeImage_pack wo _ h (length_encodedFrame_payload id extended remoteRequest payload h),
    packId_encodedFrame]
  rfl

end EncodedFrame

/-! ### The two operations -/

/-- ENCODE: one check, one result, nothing else (40_frame_codec.md R141, R142). -/
theorem exec_encode (id : Word) (extended remoteRequest : Bool) (payload : Bytes) (s : State) :
    exec (.encode id extended remoteRequest payload) s = .next
      (if maxData < payload.length then s.ended [] (.raised .validationError)
      else s.ended [] (.value (.bytes (encodeImage s.params.wordOrder id extended remoteRequest payload)))) := by
  change execEncode id extended remoteRequest payload s = _
  rw [execEncode, runOp_spec]
  split <;> rfl

/-- DECODE when its image is refused (40_frame_codec.md R145, R146). -/
theorem exec_decode_of_none (bytes : Bytes) (s : State) (h : decodeImage s.params.wordOrder bytes = none) :
    exec (.decode bytes) s = .next (s.ended [] (.raised .formatError)) := by
  change execDecode bytes s = _
  rw [execDecode, runOp_spec, startOp_params, h]
  rfl

/-- DECODE when its image is read (40_frame_codec.md R144). -/
theorem exec_decode_of_some (bytes : Bytes) (f : CanFrame) (s : State)
    (h : decodeImage s.params.wordOrder bytes = some f) :
    exec (.decode bytes) s = .next (s.ended [] (.value (.frame f))) := by
  change execDecode bytes s = _
  rw [execDecode, runOp_spec, startOp_params, h]
  rfl

theorem decodeImage_eq_none (wo : WordOrder) (b : Bytes) (h : b.length ≠ 16 ∨ 8 < (byteAt b 4).toNat) :
    decodeImage wo b = none := by
  simp only [decodeImage, frameSize, maxData]
  grind

theorem decodeImage_eq_some (wo : WordOrder) (b : Bytes) (h : ¬ (b.length ≠ 16 ∨ 8 < (byteAt b 4).toNat)) :
    decodeImage wo b = some (unpack wo b) := by
  simp only [decodeImage, frameSize, maxData]
  grind

/-! ### The obligations -/

/-- Settles O1: the image of ENCODE's frame, with the mask and the extended flag chosen together. -/
theorem encodeResult : Obligations.EncodeResult := by
  intro id extended remoteRequest payload s
  have hword : maskId id extended ||| flagIf extended effFlag =
      if extended then (id &&& 0x1FFFFFFF#32) ||| 0x80000000#32 else id &&& 0x7FF#32 := by
    cases extended
    · exact BitVec.or_zero
    · rfl
  rw [exec_encode, encodeImage_eq, hword]
  simp [flagIf, rtrFlag, zeros, maxData]

/-- Settles O2: the two checks of DECODE, and the identifier as a bit field. -/
theorem decodeResult : Obligations.DecodeResult := by
  intro bytes s
  split
  case isTrue h => exact exec_decode_of_none bytes s (decodeImage_eq_none _ _ h)
  case isFalse h =>
    rw [exec_decode_of_some bytes _ s (decodeImage_eq_some _ _ h), unpack, unpackWord, unpackId_eq_extract]
    rfl

/-- Settles O3: DECODE gives back the very frame ENCODE built, whose fields are then read off. -/
theorem codecRoundTrip : Obligations.CodecRoundTrip := by
  intro id extended remoteRequest payload s hlen
  refine ⟨encodeImage s.params.wordOrder id extended remoteRequest payload,
    encodedFrame id extended remoteRequest payload, ?_, ?_, ?_, rfl, rfl, rfl, rfl, ?_⟩
  case refine_1 =>
    have hfits : ¬ maxData < payload.length := Nat.not_lt.mpr hlen
    rw [exec_encode, if_neg hfits]
  case refine_2 =>
    exact exec_decode_of_some _ _ s (decodeImage_encodeImage id extended remoteRequest payload _ hlen)
  case refine_3 => exact maskId_setWidth id extended
  case refine_4 => exact List.take_left

end Sys2Proof.Machine
end

section
/-! PROOFS. The filter set (41_filter_set.md): a filter's raw pair as its three bits, FILTER_APPLY, and the obligation
about it. -/

namespace Sys2Proof.Machine

/-! ### The raw pair of a filter (41_filter_set.md R156) -/

/-- The three bits FilterEncode may set, as words. The mask gains its two together, and only for a filter that is not
`Both`. -/
theorem filterEncode_eq (f : Filter) :
    filterEncode f = RawFilter.mk
      (f.id ||| (if f.exclusivity = .extended then 0x80000000#32 else 0#32) |||
        (if f.invert then 0x20000000#32 else 0#32))
      (f.mask ||| (if f.exclusivity = .both then 0#32 else 0xC0000000#32)) := by
  have hmask : flagIf (decide (f.exclusivity ≠ .both)) (effFlag ||| rtrFlag) =
      if f.exclusivity = .both then 0#32 else 0xC0000000#32 := by
    cases f.exclusivity <;> rfl
  rw [filterEncode, hmask]
  simp only [flagIf, decide_eq_true_eq]
  rfl

/-! ### The operation (41_filter_set.md R157) -/

/-- FILTER_APPLY: the mode, the size of the list, the operating system, asked in that order; only when all three let it
pass is a register written. -/
theorem exec_filterApply (filters : List Filter) (sysOk : Bool) (errno : Nat) (s : State) :
    exec (.filterApply filters sysOk errno) s = .next
      (if s.mode = .closed then s.ended [] (.raised .closedError)
      else if maxFilters < filters.length then s.ended [] (.raised .configurationError)
      else if sysOk = false then s.ended [] (.raised (.systemCallError errno))
      else
        { s.ended [] (.value (.bytes (fltImage s.params.wordOrder (filters.map filterEncode))))
          with cfg := { s.cfg with filters := filters.map filterEncode, filtersSet := true } }) := by
  change execFilterApply filters sysOk errno s = _
  rw [execFilterApply, runOp_spec, configGate_spec, startOp_mode]
  by_cases hclosed : s.mode = .closed
  · rw [if_pos hclosed, if_pos hclosed]
    rfl
  rw [if_neg hclosed, if_neg hclosed]
  by_cases hsize : maxFilters < filters.length
  · rw [if_pos hsize, if_pos hsize]
    rfl
  rw [if_neg hsize, if_neg hsize]
  cases sysOk <;> rfl

/-! ### The obligation -/

/-- Settles O5: FILTER_APPLY's equation, with the raw pairs written out. -/
theorem filterApplyResult : Obligations.FilterApplyResult := by
  intro filters sysOk errno s
  rw [exec_filterApply, funext filterEncode_eq]
  rfl

end Sys2Proof.Machine
end

section
/-! PROOFS. The error decoder (42_error_decoder.md): its two table readings, its report group by group, the operation, and
the obligations about it. -/

namespace Sys2Proof.Machine

/-! ### Reading a table (42_error_decoder.md R174, R178) -/

/-- An intersection of a table with a word, as a set. -/
theorem mem_bitNames {α : Type} {n : Nat} (table : List (α × BitVec n)) (w : BitVec n) (k : α) :
    k ∈ bitNames table w ↔ ∃ v, (k, v) ∈ table ∧ v &&& w ≠ 0 := by
  simp [bitNames]

/-- A look-up answers a name the table gives the byte, and the sentinel only when it gives the byte none. -/
theorem nameOf_spec {α : Type} (table : List (α × Byte)) (unknown : α) (v : Byte) :
    (nameOf table unknown v, v) ∈ table ∨ nameOf table unknown v = unknown ∧ ∀ j, (j, v) ∉ table := by
  cases hfind : table.find? fun k => decide (k.2 = v) with
  | some k =>
    have hname : nameOf table unknown v = k.1 := by rw [nameOf, hfind]
    have hvalue : k.2 = v := by simpa using List.find?_some hfind
    left
    rw [hname, ← hvalue]
    exact List.mem_of_find?_eq_some hfind
  | none =>
    have hname : nameOf table unknown v = unknown := by rw [nameOf, hfind]
    exact .inr ⟨hname, fun j hj => List.find?_eq_none.mp hfind (j, v) hj (decide_eq_true rfl)⟩

/-! ### The report, by the first detail class present (42_error_decoder.md R176, R177) -/

section Report

variable {t : ErrTable} {f : CanFrame}

theorem errorReport_of_lostArbitration (hlost : .lostArbitration ∈ bitNames t.cls f.id) :
    errorReport t f =
      ⟨bitNames t.cls f.id, some (byteAt f.payload t.offArbitration.val), [], [], none, none⟩ :=
  if_pos hlost

theorem errorReport_of_controllerError (hlost : .lostArbitration ∉ bitNames t.cls f.id)
    (hctrl : .controllerError ∈ bitNames t.cls f.id) :
    errorReport t f =
      ⟨bitNames t.cls f.id, none, bitNames t.controller (byteAt f.payload t.offController.val), [], none, none⟩ :=
  (if_neg hlost).trans (if_pos hctrl)

theorem errorReport_of_protocolViolation (hlost : .lostArbitration ∉ bitNames t.cls f.id)
    (hctrl : .controllerError ∉ bitNames t.cls f.id) (hprot : .protocolViolation ∈ bitNames t.cls f.id) :
    errorReport t f =
      ⟨bitNames t.cls f.id, none, [], bitNames t.protocolType (byteAt f.payload t.offProtocolType.val),
        some (nameOf t.protocolLocation .unknown (byteAt f.payload t.offProtocolLocation.val)), none⟩ :=
  (if_neg hlost).trans <| (if_neg hctrl).trans (if_pos hprot)

theorem errorReport_of_transceiverStatus (hlost : .lostArbitration ∉ bitNames t.cls f.id)
    (hctrl : .controllerError ∉ bitNames t.cls f.id) (hprot : .protocolViolation ∉ bitNames t.cls f.id)
    (htrans : .transceiverStatus ∈ bitNames t.cls f.id) :
    errorReport t f =
      ⟨bitNames t.cls f.id, none, [], [], none,
        some (nameOf t.transceiver .unknown (byteAt f.payload t.offTransceiver.val))⟩ :=
  (if_neg hlost).trans <| (if_neg hctrl).trans <| (if_neg hprot).trans (if_pos htrans)

theorem errorReport_of_no_detail_class (hlost : .lostArbitration ∉ bitNames t.cls f.id)
    (hctrl : .controllerError ∉ bitNames t.cls f.id) (hprot : .protocolViolation ∉ bitNames t.cls f.id)
    (htrans : .transceiverStatus ∉ bitNames t.cls f.id) :
    errorReport t f = ⟨bitNames t.cls f.id, none, [], [], none, none⟩ :=
  (if_neg hlost).trans <| (if_neg hctrl).trans <| (if_neg hprot).trans (if_neg htrans)

end Report

/-- The classes do not depend on the detail group that is filled. -/
@[simp] theorem errorReport_classes (t : ErrTable) (f : CanFrame) : (errorReport t f).classes = bitNames t.cls f.id := by
  simp only [errorReport]
  split_ifs <;> rfl

/-! ### The operation (42_error_decoder.md R171, R180) -/

theorem exec_errDecode_of_error (f : CanFrame) (s : State) (herr : f.error = true) :
    exec (.errDecode f) s = .next (s.ended [] (.value (.report (errorReport s.params.errTable f)))) := by
  change execErrDecode f s = _
  rw [execErrDecode, if_pos herr, runOp_spec, startOp_params]
  rfl

theorem exec_errDecode_of_no_error (f : CanFrame) (s : State) (herr : f.error = false) :
    exec (.errDecode f) s = .refused .notAnErrorFrame := by
  change execErrDecode f s = _
  rw [execErrDecode, herr]
  exact if_neg Bool.false_ne_true

/-! ### The obligations -/

/-- Settles O9: one case for each detail class that can be the first present, and one for none. -/
theorem errorReportRule : Obligations.ErrorReportRule := by
  intro f s herr t
  refine ⟨errorReport t f, exec_errDecode_of_error f s herr, ?_, ?_⟩
  case refine_1 =>
    intro k
    rw [errorReport_classes, mem_bitNames]
  case refine_2 =>
    by_cases hlost : .lostArbitration ∈ bitNames t.cls f.id
    · rw [errorReport_of_lostArbitration hlost]
      simp [hlost, byteAt]
    by_cases hctrl : .controllerError ∈ bitNames t.cls f.id
    · rw [errorReport_of_controllerError hlost hctrl]
      simp [hlost, hctrl, mem_bitNames, byteAt]
    by_cases hprot : .protocolViolation ∈ bitNames t.cls f.id
    · rw [errorReport_of_protocolViolation hlost hctrl hprot]
      simpa [hlost, hctrl, hprot, mem_bitNames, byteAt] using
        nameOf_spec t.protocolLocation .unknown (byteAt f.payload t.offProtocolLocation.val)
    by_cases htrans : .transceiverStatus ∈ bitNames t.cls f.id
    · rw [errorReport_of_transceiverStatus hlost hctrl hprot htrans]
      simpa [hlost, hctrl, hprot, htrans, byteAt] using
        nameOf_spec t.transceiver .unknown (byteAt f.payload t.offTransceiver.val)
    · rw [errorReport_of_no_detail_class hlost hctrl hprot htrans]
      simp [hlost, hctrl, hprot, htrans]

/-- Settles O10: identifier 2 meets one class of the table of R172, so the first group is the one filled. -/
theorem lostArbitrationReport : Obligations.LostArbitrationReport := by
  intro f s htable herr hid
  have hclasses : bitNames errTableT0.cls f.id = [.lostArbitration] := by
    rw [hid]
    decide
  have hlost : .lostArbitration ∈ bitNames errTableT0.cls f.id := by simp [hclasses]
  rw [exec_errDecode_of_error f s herr, htable, errorReport_of_lostArbitration hlost, hclasses]
  rfl

/-- Settles O11: the flag is tested before anything else. -/
theorem errDecodeRefused : Obligations.ErrDecodeRefused :=
  exec_errDecode_of_no_error

end Sys2Proof.Machine
end

section
/-! PROOFS. BIND and CLOSE (43_port.md R192, R194): the two operations that write the mode. -/

namespace Sys2Proof.Machine

/-! ### BIND (43_port.md R192) -/

theorem validName_iff (name : Bytes) :
    validName name = true ↔ 1 ≤ name.length ∧ name.length ≤ 15 ∧ ∀ b ∈ name, 1 ≤ b.toNat ∧ b.toNat ≤ 0x7F := by
  simp only [validName, Bool.and_eq_true, decide_eq_true_eq, List.all_eq_true, and_assoc]
  rfl

/-- Settles O12: one case for each mode; only an unbound port looks at the name, and then at the answer. -/
theorem bindResult : Obligations.BindResult := by
  intro name res s
  simp only [← validName_iff, Bool.not_eq_true]
  change execBind name res s = _
  rw [execBind, runOp_spec, startOp_mode]
  cases s.mode with
  | closed => rfl
  | bound => rfl
  | unbound =>
    cases validName name with
    | false => rfl
    | true => cases res <;> rfl

/-! ### The sessions CLOSE ends (43_port.md R194) -/

theorem freed_of_not_valid (sl : Slot) (h : sl.valid = false) : sl.freed = sl := by
  rw [Slot.freed, ← h]

/-- What ending a session delivers is read off its own slot and its peer alone. -/
theorem delivery_congr {s t : State} {c : Nat} (hparams : t.params = s.params) (hslot : t.slot c = s.slot c)
    (code : ResultCode) : t.delivery c code = s.delivery c code := by
  simp only [State.delivery, State.peer, State.channel, hparams, hslot]

/-- The deliveries of CLOSE for the channels below `n`. -/
def State.closings (s : State) (n : Nat) : List Action :=
  (List.range n).filterMap fun c => if (s.slot c).valid then some (s.delivery c .genericError) else none

/-- CLOSE part of the way: the sessions of the channels below `n` have ended. -/
def State.closedBelow (s : State) (n : Nat) : State :=
  { s with
    slots := s.slots.mapIdx fun c sl => if c < n then sl.freed else sl
    actions := s.actions ++ s.closings n }

theorem closings_succ (s : State) (n : Nat) :
    s.closings (n + 1) =
      s.closings n ++ (if (s.slot n).valid then [s.delivery n .genericError] else []) := by
  rw [State.closings, List.range_succ, List.filterMap_append, State.closings]
  cases hvalid : (s.slot n).valid <;> simp [hvalid]

theorem closedBelow_zero (s : State) : s.closedBelow 0 = s := by
  have hslots : s.slots.mapIdx (fun _ sl => sl) = s.slots := List.ext_getElem (by simp) (by simp)
  simp [State.closedBelow, State.closings, hslots]

/-- The turns already taken leave a later slot alone (10_state.md R27). -/
theorem slot_closedBelow (s : State) (n : Nat) : (s.closedBelow n).slot n = s.slot n := by
  by_cases h : n < s.slots.length <;> simp [State.slot, State.closedBelow, h]

/-- One more slot of the partly closed table freed. -/
theorem slots_closedBelow_succ (s : State) (n : Nat) :
    (s.closedBelow (n + 1)).slots = (s.closedBelow n).slots.set n (s.slot n).freed := by
  apply List.ext_getElem
  · simp [State.closedBelow]
  · intro i hi _
    have hlt : i < s.slots.length := by simpa [State.closedBelow] using hi
    rcases Nat.lt_trichotomy i n with h | rfl | h
    · simp [State.closedBelow, h, Nat.le_of_lt h, Nat.ne_of_gt h]
    · simp [State.closedBelow, State.slot, hlt]
    · simp [State.closedBelow, Nat.not_le_of_lt h, Nat.lt_asymm h, Nat.ne_of_lt h]

/-- One slot's turn: a delivery if it holds a session, and a slot without one either way. -/
theorem closeSlot_spec (c : Nat) (s : State) :
    closeSlot c s =
      { s with
        slots := s.slots.set c (s.slot c).freed
        actions := s.actions ++ (if (s.slot c).valid then [s.delivery c .genericError] else []) } := by
  rw [closeSlot]
  cases hvalid : (s.slot c).valid
  · have hset : s.slots.set c (s.slot c) = s.slots := by
      by_cases h : c < s.slots.length
      · simp [State.slot, h]
      · exact List.set_eq_of_length_le (Nat.le_of_not_lt h)
    simp [freed_of_not_valid _ hvalid, hset]
  · rw [if_pos rfl, abort_eq_finish, finish_spec]
    rfl

theorem closeSlot_closedBelow (s : State) (n : Nat) : closeSlot n (s.closedBelow n) = s.closedBelow (n + 1) := by
  have hdelivery := delivery_congr (s := s) (t := s.closedBelow n) rfl (slot_closedBelow s n) .genericError
  rw [closeSlot_spec, slot_closedBelow, hdelivery, ← slots_closedBelow_succ]
  simp only [State.closedBelow, closings_succ, List.append_assoc]

/-- The whole pass, by induction on the channels that have had their turn. -/
theorem foldl_closeSlot (s : State) (n : Nat) :
    (List.range n).foldl (fun s c => closeSlot c s) s = s.closedBelow n := by
  induction n with
  | zero => exact (closedBelow_zero s).symm
  | succ n ih => rw [List.range_succ, List.foldl_append, ih, List.foldl_cons, List.foldl_nil, closeSlot_closedBelow]

theorem slots_closedBelow_length (s : State) : (s.closedBelow s.slots.length).slots = s.slots.map Slot.freed := by
  apply List.ext_getElem
  · simp [State.closedBelow]
  · intro i _ hi
    have hlt : i < s.slots.length := by simpa using hi
    simp [State.closedBelow, hlt]

/-- With one slot for each channel the pass reaches them all. -/
theorem closeSessions_eq (s : State) (hlen : s.slots.length = s.params.nCh) :
    closeSessions s =
      { s with slots := s.slots.map Slot.freed, actions := s.actions ++ s.closings s.params.nCh } := by
  rw [closeSessions, foldl_closeSlot, ← slots_closedBelow_length, hlen]
  rfl

/-! ### CLOSE (43_port.md R194, R196) -/

theorem exec_close (s : State) :
    exec .close s = .next
      (if s.mode = .closed then s.ended [] (.raised .closedError)
      else { closeSessions (startOp [] s) with mode := .closed, txo := [] }) := by
  change execClose s = _
  rw [execClose, runOp_spec, startOp_mode]
  cases s.mode <;> rfl

/-- Settles O13: the pass over the slots, from a state without outputs. -/
theorem closeResult : Obligations.CloseResult := by
  intro s hlen
  rw [exec_close, closeSessions_eq (startOp [] s) hlen]
  rfl

end Sys2Proof.Machine
end

section
/-! PROOFS. CFG_WRITE (43_port.md R198): the register file under a write, and the write's errors in order. -/

namespace Sys2Proof.Machine

/-! ### The registers (10_state.md R22, R23) -/

/-- A register holds a legal value whole. -/
theorem regRead_regWrite_same (p : Params) (cfg : Cfg) (r : Reg) (v : Nat) (hlegal : regLegal p r v = true) :
    regRead (regWrite cfg r v) r = v := by
  have hbool : v < 2 → (decide (v ≠ 0)).toNat = v := by
    intro h
    interval_cases v <;> rfl
  cases r
  case padEn => exact hbool (of_decide_eq_true hlegal)
  case loopback => exact hbool (of_decide_eq_true hlegal)
  case recvOwn => exact hbool (of_decide_eq_true hlegal)
  case errMask =>
    rw [regLegal, Bool.and_eq_true, decide_eq_true_eq] at hlegal
    obtain ⟨hrange, -⟩ := hlegal
    exact Nat.mod_eq_of_lt hrange
  all_goals exact Nat.mod_eq_of_lt (of_decide_eq_true hlegal)

/-- A write reaches the fields of one register, which the reads of the others do not look at: of the hundred pairs the
ten on the diagonal are excluded, and in each of the rest the read computes to the read before the write. -/
theorem regRead_regWrite_other (cfg : Cfg) (r q : Reg) (v : Nat) (hne : q ≠ r) :
    regRead (regWrite cfg r v) q = regRead cfg q := by
  cases r <;> cases q <;> trivial

@[simp] theorem regWrite_filters (cfg : Cfg) (r : Reg) (v : Nat) : (regWrite cfg r v).filters = cfg.filters := by
  cases r <;> rfl

@[simp] theorem regWrite_filtersSet (cfg : Cfg) (r : Reg) (v : Nat) :
    (regWrite cfg r v).filtersSet = cfg.filtersSet := by
  cases r <;> rfl

theorem passThrough_iff (r : Reg) : r.passThrough = true ↔ r = .errMask ∨ r = .loopback ∨ r = .recvOwn := by
  cases r <;> simp [Reg.passThrough]

/-- The table of selectors (30_encoding.md R117). -/
theorem regOfSelector_table :
    ∀ k ∈ [((0 : BitVec 4), Reg.rxCapacity), (1, .nBs), (2, .nCr), (3, .wftMax), (4, .localStmin), (5, .padEn),
      (6, .padByte), (7, .errMask), (8, .loopback), (9, .recvOwn)], regOfSelector k.1 = some k.2 := by
  decide

/-! ### The operation (43_port.md R198) -/

/-- A register write: the mode, the value, the operating system, asked in that order; only when all three let it pass is
the register written. -/
theorem runOp_writeReg (r : Reg) (v : Nat) (sysOk : Bool) (errno : Nat) (s : State) :
    runOp [] (writeReg r v sysOk errno) s = .next
      (if s.mode = .closed then s.ended [] (.raised .closedError)
      else if regLegal s.params r v = false then s.ended [] (.raised .validationError)
      else if r.passThrough = true ∧ sysOk = false then s.ended [] (.raised (.systemCallError errno))
      else { s.ended [] .noValue with cfg := regWrite s.cfg r v }) := by
  rw [runOp_spec, writeReg, configGate_spec, startOp_mode, startOp_params]
  by_cases hclosed : s.mode = .closed
  · rw [if_pos hclosed, if_pos hclosed]
    rfl
  rw [if_neg hclosed, if_neg hclosed]
  cases regLegal s.params r v
  case false => rfl
  case true => cases r.passThrough <;> cases sysOk <;> rfl

theorem exec_cfgWrite (reg : BitVec 4) (r : Reg) (v : Nat) (sysOk : Bool) (errno : Nat) (s : State)
    (hreg : regOfSelector reg = some r) :
    exec (.cfgWrite reg v sysOk errno) s = runOp [] (writeReg r v sysOk errno) s := by
  change execCfgWrite reg v sysOk errno s = _
  rw [execCfgWrite, hreg]

/-! ### The obligation -/

/-- Settles O15: the errors in order by `runOp_writeReg`, the registers after a write by the two laws of `regWrite`. -/
theorem cfgWriteResult : Obligations.CfgWriteResult := by
  intro reg r v sysOk errno s hmem
  refine ⟨_, (exec_cfgWrite reg r v sysOk errno s (regOfSelector_table (reg, r) hmem)).trans
    (runOp_writeReg r v sysOk errno s), ?_⟩
  simp only [← passThrough_iff]
  by_cases hclosed : s.mode = .closed
  · simp only [if_pos hclosed]
  by_cases hillegal : regLegal s.params r v = false
  · simp only [if_neg hclosed, if_pos hillegal]
  by_cases hsys : r.passThrough = true ∧ sysOk = false
  · simp only [if_neg hclosed, if_neg hillegal, if_pos hsys]
  simp only [if_neg hclosed, if_neg hillegal, if_neg hsys]
  refine ⟨trivial, fun q => ?_, regWrite_filters s.cfg r v, regWrite_filtersSet s.cfg r v⟩
  split
  case isTrue heq =>
    subst heq
    exact regRead_regWrite_same s.params s.cfg q v (eq_true_of_ne_false hillegal)
  case isFalse hne => exact regRead_regWrite_other s.cfg r q v hne

end Sys2Proof.Machine
end

section
/-! PROOFS. RX_RAW (43_port.md R205, R206): the expiry pass in front of every inbound unit, the frames the transport
answers without a multi-frame session, and the obligation about them. -/

namespace Sys2Proof.Machine

/-! ### What the expiry pass leaves alone (46_tp_timers.md R293) -/

/-- Slots, actions and the outcomes at hand may differ, and nothing else; there are as many slots as before. -/
structure OnlySlots (s t : State) : Prop where
  params : t.params = s.params
  mode : t.mode = s.mode
  cfg : t.cfg = s.cfg
  pending : t.pending = s.pending
  result : t.result = s.result
  length : t.slots.length = s.slots.length

theorem OnlySlots.refl (s : State) : OnlySlots s s := ⟨rfl, rfl, rfl, rfl, rfl, rfl⟩

theorem OnlySlots.trans {s t u : State} (h : OnlySlots s t) (k : OnlySlots t u) : OnlySlots s u where
  params := k.params.trans h.params
  mode := k.mode.trans h.mode
  cfg := k.cfg.trans h.cfg
  pending := k.pending.trans h.pending
  result := k.result.trans h.result
  length := k.length.trans h.length

theorem OnlySlot.onlySlots {c : Nat} {s t : State} (h : OnlySlot c s t) : OnlySlots s t where
  params := h.params
  mode := h.mode
  cfg := h.cfg
  pending := h.pending
  result := h.result
  length := h.length

/-- A pass over any channels, each turn of which keeps to its own slot. -/
theorem onlySlots_foldl (f : State → Nat → State) (hf : ∀ c s, OnlySlot c s (f s c)) (cs : List Nat) (s : State) :
    OnlySlots s (cs.foldl f s) := by
  induction cs generalizing s with
  | nil => exact .refl s
  | cons c cs ih => exact (hf c s).onlySlots.trans (ih (f s c))

theorem onlySlots_expire (now : Nat) (s : State) : OnlySlots s (expire now s) :=
  onlySlots_foldl (fun s c => expireSlot now c s) (onlySlot_expireSlot now) _ s

theorem onlySlots_served (now : BitVec 64) (txo : List TxOutcome) (s : State) :
    OnlySlots (startOp txo s) (s.served now txo) :=
  onlySlots_expire now.toNat (startOp txo s)

@[simp] theorem served_params (now : BitVec 64) (txo : List TxOutcome) (s : State) :
    (s.served now txo).params = s.params := (onlySlots_served now txo s).params

@[simp] theorem served_mode (now : BitVec 64) (txo : List TxOutcome) (s : State) :
    (s.served now txo).mode = s.mode := (onlySlots_served now txo s).mode

@[simp] theorem served_cfg (now : BitVec 64) (txo : List TxOutcome) (s : State) :
    (s.served now txo).cfg = s.cfg := (onlySlots_served now txo s).cfg

@[simp] theorem served_pending (now : BitVec 64) (txo : List TxOutcome) (s : State) :
    (s.served now txo).pending = s.pending := (onlySlots_served now txo s).pending

/-- The pass returns no value and raises no error. -/
@[simp] theorem served_result (now : BitVec 64) (txo : List TxOutcome) (s : State) :
    (s.served now txo).result = .noValue := (onlySlots_served now txo s).result

@[simp] theorem served_length (now : BitVec 64) (txo : List TxOutcome) (s : State) :
    (s.served now txo).slots.length = s.slots.length := (onlySlots_served now txo s).length

@[simp] theorem served_channel (now : BitVec 64) (txo : List TxOutcome) (s : State) (c : Nat) :
    (s.served now txo).channel c = s.channel c := by
  rw [State.channel, served_params, State.channel]

@[simp] theorem served_peer (now : BitVec 64) (txo : List TxOutcome) (s : State) (c : Nat) :
    (s.served now txo).peer c = s.peer c := by
  rw [State.peer, served_channel, State.peer]

@[simp] theorem served_unexpected (now : BitVec 64) (txo : List TxOutcome) (s : State) (c : Nat) :
    (s.served now txo).unexpected c = s.unexpected c := by
  rw [State.unexpected, served_peer, State.unexpected]

/-! ### The end of an operation that returned nothing -/

theorem endOp_eq_andThen (e : State) (hres : e.result = .noValue) : endOp e = e.andThen [] := by
  simp only [endOp, State.andThen, State.ended, List.append_nil, ← hres]

theorem endOp_emit (a : Action) (e : State) (hres : e.result = .noValue) : endOp (emit a e) = e.andThen [a] := by
  simp only [endOp, emit, State.andThen, State.ended, ← hres]

/-- A SingleFrame: the reception it interrupts is reported first (44_tp_receive.md R226). -/
theorem endOp_rxSF (c : Nat) (data : Bytes) (e : State) (hres : e.result = .noValue) :
    endOp (rxSF c data e) = e.singleFrame c data := by
  have hrecv : e.receiving c = true ↔ (e.slot c).valid = true ∧ (e.slot c).direction = .receiving := by
    simp [State.receiving]
  rw [rxSF, State.singleFrame]
  simp only [← hrecv]
  cases e.receiving c
  · exact endOp_emit _ e hres
  · rw [if_pos rfl, if_pos rfl, abort_eq_finish, finish_spec]
    refine (endOp_emit _ _ ?_).trans ?_
    · exact hres
    · simp only [State.andThenSlot, State.andThen, State.ended, List.append_assoc]
      rfl

/-! ### Inbound units (43_port.md R205, R206) -/

/-- On a bound port the handler of a unit runs after the expiry pass. -/
theorem inbound_bound (rx : RxArgs) (body : State → State) (s : State) (hmode : s.mode = .bound) :
    inbound rx body s = .next (endOp (body (s.served rx.now rx.txo))) := by
  rw [inbound, runOp, trafficGate, startOp_mode, hmode]
  rfl

/-- RX_RAW of a frame on a bound port. -/
theorem exec_rxRaw_of_some (bytes : Bytes) (rx : RxArgs) (s : State) (f : CanFrame) (hmode : s.mode = .bound)
    (hdec : decodeImage s.params.wordOrder bytes = some f) :
    exec (.rxRaw bytes rx) s = .next (endOp (deliver f rx.now.toNat (s.served rx.now rx.txo))) := by
  change execRxRaw bytes rx s = _
  rw [execRxRaw, inbound_bound rx _ s hmode, served_params, hdec]

/-- The handler of a data frame of channel `c`, by what PduDecode makes of the frame (44_tp_receive.md R223). -/
def handlePdu (c now : Nat) : Npdu → State → State
  | .invalid => id
  | .sf data => rxSF c data
  | .ff total data => rxFF c total data now
  | .cf sn data => rxCF c sn data now
  | .fc fs bs st => rxFC c fs bs st now
  | .unknownType _ => rxUnknown c

section Deliver

variable {f : CanFrame} (now : Nat) (s : State)

theorem deliver_of_error (herr : f.error = true) :
    deliver f now s = emit (.onErrorFrame (errorReport s.params.errTable f)) s :=
  if_pos herr

theorem deliver_of_no_error (herr : f.error = false) : deliver f now s = tpRx f now s := by
  rw [deliver, herr]
  exact if_neg Bool.false_ne_true

/-- The transport ignores remote frames and frames of no channel (44_tp_receive.md R222, R225). -/
theorem tpRx_ignored (h : f.remoteRequest = true ∨ s.params.lookup f = none) : tpRx f now s = s := by
  rw [tpRx]
  rcases h with hremote | hlookup
  · exact if_pos hremote
  · rw [hlookup]
    exact ite_self s

theorem tpRx_of_channel {c : Nat} (hdata : f.remoteRequest = false) (hlookup : s.params.lookup f = some c) :
    tpRx f now s = handlePdu c now (pduDecode (s.channel c) f) s := by
  rw [tpRx, hdata, if_neg Bool.false_ne_true, hlookup]
  dsimp only
  cases pduDecode (s.channel c) f <;> rfl

end Deliver

/-! ### The obligation -/

/-- Settles O43: the unit passes both checks of DECODE, and each kind of frame is handled after the expiry pass. -/
theorem rxRawResult : Obligations.RxRawResult := by
  intro bytes rx s hmode hlen hbyte e f
  have hdec : decodeImage s.params.wordOrder bytes = some f :=
    decodeImage_eq_some _ _ (not_or.mpr ⟨not_not.mpr hlen, Nat.not_lt.mpr hbyte⟩)
  have hparams : e.params = s.params := served_params rx.now rx.txo s
  have hres : e.result = .noValue := served_result rx.now rx.txo s
  rw [exec_rxRaw_of_some bytes rx s f hmode hdec]
  refine ⟨fun herr => ?error, fun herr hign => ?ignored, fun c herr hdata hlookup => ?channel⟩
  case error =>
    rw [deliver_of_error _ _ herr, served_params]
    exact congrArg _ (endOp_emit _ e hres)
  case ignored =>
    rw [deliver_of_no_error _ e herr, tpRx_ignored _ e (hparams ▸ hign)]
    exact congrArg _ (endOp_eq_andThen e hres)
  case channel =>
    rw [deliver_of_no_error _ e herr, tpRx_of_channel _ e hdata (hparams ▸ hlookup), served_channel]
    refine ⟨fun hinvalid => ?_, fun data hsf => ?_, fun t hunknown => ?_⟩
    · rw [hinvalid]
      exact congrArg _ (endOp_eq_andThen e hres)
    · rw [hsf]
      exact congrArg _ (endOp_rxSF c data e hres)
    · rw [hunknown, ← served_unexpected rx.now rx.txo s c]
      exact congrArg _ (endOp_emit _ e hres)

end Sys2Proof.Machine
end

section
/-! PROOFS. What a session does with a frame it offers to `Tx` (43_port.md R208, R209), said once for the FirstFrame and
the ConsecutiveFrames of a sending session; and the images of those frames. -/

namespace Sys2Proof.Machine

/-! ### Slots -/

/-- A slot read back from any state whose table holds it. -/
theorem slot_of_slots_set {s t : State} {c : Nat} {sl : Slot} (hc : c < s.slots.length)
    (hslots : t.slots = s.slots.set c sl) : t.slot c = sl :=
  (slot_congr (s := setSlot c sl s) hslots c).trans (slot_setSlot_self c sl s hc)

/-- A valid slot is one of the table's. -/
theorem lt_length_of_valid {s : State} {c : Nat} (hvalid : (s.slot c).valid = true) : c < s.slots.length := by
  by_contra h
  rw [slot_beyond c s (Nat.le_of_not_lt h)] at hvalid
  exact nomatch hvalid

theorem delivery_of_sending {s : State} {c : Nat} (code : ResultCode) (hdir : (s.slot c).direction = .sending) :
    s.delivery c code = .sendDone (s.peer c) code := by
  rw [State.delivery, hdir]

/-! ### Transmission (43_port.md R208, R209) -/

@[simp] theorem nextTx_setSlot (c : Nat) (sl : Slot) (s : State) : (setSlot c sl s).nextTx = s.nextTx := rfl

/-- A session's frame offered to `Tx`: `sent` follows when it goes out, else the session ends. -/
def offer (c : Nat) (image : Bytes) (sent : State → State) (s : State) : State :=
  match tx image s with
  | (.done, s) => sent s
  | (.fail, s) => abort c (txCode .fail) s
  | (.timeout, s) => abort c (txCode .timeout) s

theorem sendNextCF_eq_offer (c now : Nat) (s : State) :
    sendNextCF c now s = offer c (nextCfImage c s) (afterCf c now) s := rfl

theorem offer_of_done (c : Nat) (image : Bytes) (sent : State → State) {s : State} (hdone : s.nextTx = .done) :
    offer c image sent s = sent { s with txo := s.txo.tail, actions := s.actions ++ [.txFrame image] } := by
  rw [offer, tx_spec, if_pos hdone, hdone]

theorem offer_of_lost (c : Nat) (image : Bytes) (sent : State → State) {s : State} (hlost : s.nextTx ≠ .done) :
    offer c image sent s =
      { s with
        txo := s.txo.tail
        slots := s.slots.set c (s.slot c).freed
        actions := s.actions ++ [s.delivery c (txCode s.nextTx)] } := by
  rw [offer, tx_spec, if_neg hlost]
  cases hnext : s.nextTx with
  | done => exact absurd hnext hlost
  | fail => exact finish_spec c (txCode .fail) _
  | timeout => exact finish_spec c (txCode .timeout) _

/-! ### Outbound frames (30_encoding.md R97, R111) -/

theorem tpFrame_eq_frameTo (c : Nat) (b : Bytes) (s : State) : tpFrame s.params s.cfg c b = s.frameTo c b := rfl

/-- The image of a frame is read off the parameters and the configuration alone. -/
theorem frameTo_congr {s t : State} (hparams : t.params = s.params) (hcfg : t.cfg = s.cfg) (c : Nat) (b : Bytes) :
    t.frameTo c b = s.frameTo c b := by
  simp only [← tpFrame_eq_frameTo, hparams, hcfg]

@[simp] theorem served_frameTo (now : BitVec 64) (txo : List TxOutcome) (s : State) (c : Nat) (b : Bytes) :
    (s.served now txo).frameTo c b = s.frameTo c b :=
  frameTo_congr (served_params now txo s) (served_cfg now txo s) c b

/-- The four bits of a PCI type above the top four of a 12-bit length, as one number (30_encoding.md R103). -/
theorem pciByte_one_ofNat (n : Nat) (h : n < 16) : pciByte 1 (BitVec.ofNat 4 n) = BitVec.ofNat 8 (0x10 + n) := by
  interval_cases n <;> rfl

/-- The bytes of a number below 2^32, most significant first. -/
theorem be32_ofNat (n : Nat) :
    be32 (BitVec.ofNat 32 n) =
      [BitVec.ofNat 8 (n / 2 ^ 24), BitVec.ofNat 8 (n / 2 ^ 16), BitVec.ofNat 8 (n / 2 ^ 8), BitVec.ofNat 8 n] := by
  have hbyte (k : Nat) (hk : k ≤ 24) : (BitVec.ofNat 32 n).extractLsb' k 8 = BitVec.ofNat 8 (n / 2 ^ k) := by
    apply BitVec.eq_of_getLsbD_eq
    intro i hi
    have hbit : k + i < 32 := by omega
    rw [BitVec.getLsbD_extractLsb', BitVec.getLsbD_ofNat, BitVec.getLsbD_ofNat, Nat.testBit_div_two_pow, Nat.add_comm i]
    simp [hi, hbit]
  rw [be32, hbyte 24 (by decide), hbyte 16 (by decide), hbyte 8 (by decide), hbyte 0 (by decide), pow_zero, Nat.div_one]

/-- The FirstFrame's bytes, in the short form (30_encoding.md R103) and in the long one (30_encoding.md R104). -/
theorem mkFF_eq (ch : Channel) (total : Nat) (data : Bytes) :
    mkFF ch total data =
      ch.extBytes ++
        (if total ≤ 4095 then [BitVec.ofNat 8 (0x10 + total / 256), BitVec.ofNat 8 (total % 256)]
        else
          [0x10, 0x00, BitVec.ofNat 8 (total / 2 ^ 24), BitVec.ofNat 8 (total / 2 ^ 16), BitVec.ofNat 8 (total / 2 ^ 8),
            BitVec.ofNat 8 total]) ++ data := by
  rw [mkFF]
  split
  · have hlow : BitVec.ofNat 8 total = BitVec.ofNat 8 (total % 256) := by
      apply BitVec.eq_of_toNat_eq
      simp
    rw [pciByte_one_ofNat _ (by omega), hlow]
  · rw [be32_ofNat, List.append_assoc ch.extBytes]
    rfl

end Sys2Proof.Machine
end

section
/-! PROOFS. The whole expiry pass of TICK (46_tp_timers.md R293, R295): one slot's turn, then the pass by induction on the
channels that have had theirs. -/

namespace Sys2Proof.Machine

/-! ### The next ConsecutiveFrame (45_tp_send.md R272 to R277) -/

/-- A first PCI byte of type 2 (30_encoding.md R105). -/
theorem pciByte_two (sn : BitVec 4) : pciByte 2 sn = 0x20 ||| sn.setWidth 8 := by
  revert sn
  decide

theorem nextCfImage_eq (c : Nat) (s : State) : nextCfImage c s = s.cfTo c (s.slot c) := by
  rw [State.cfTo, ← pciByte_two]
  rfl

/-- A session whose St timer runs is sending, and inside its block (10_state.md R26, 45_tp_send.md R283). -/
theorem sending_of_timer_st {sl : Slot} {mode : Mode} {peer : PeerAddr} (hok : sl.ok mode peer = true)
    (hvalid : sl.valid = true) (hst : sl.timer = .st) :
    sl.direction = .sending ∧ (sl.blockSize ≠ 0 → 1 ≤ sl.blockRemaining) := by
  obtain ⟨-, ⟨hdir, -, -, -, hstate, -⟩, -, -, -, -, hblock, -⟩ := (ok_iff sl mode peer).mp hok hvalid
  have hsending := hstate.mp hst
  refine ⟨hdir.mpr ?_, fun hsize => (hblock hsending hsize).1⟩
  rw [hsending]
  exact nofun

theorem finish_setSlot_of_sending (c : Nat) (code : ResultCode) {sl : Slot} {s : State} (hc : c < s.slots.length)
    (hdir : sl.direction = .sending) :
    finish c code (setSlot c sl s) =
      { s with slots := s.slots.set c sl.freed, actions := s.actions ++ [.sendDone (s.peer c) code] } := by
  have hslot := slot_setSlot_self c sl s hc
  rw [finish_spec, delivery_of_sending code (hslot.symm ▸ hdir), hslot]
  simp [setSlot, State.peer, State.channel]

theorem arm_setSlot (c : Nat) (k : TimerKind) (now : Nat) {sl : Slot} {s : State} (hc : c < s.slots.length) :
    arm c k now (setSlot c sl s) =
      setSlot c { sl with timer := k, deadline := now + timerDuration s.cfg sl k } s := by
  rw [arm_spec, slot_setSlot_self c sl s hc, setSlot_setSlot]
  rfl

section Turn

variable {c now : Nat} {s : State}

/-- The branches of what follows a frame that went out: the message complete, no block, the block used up, the block
going on. -/
theorem afterCf_spec (hc : c < s.slots.length) (hdir : (s.slot c).direction = .sending)
    (hblock : (s.slot c).blockSize ≠ 0 → 1 ≤ (s.slot c).blockRemaining) :
    afterCf c now s =
      { s with
        slots := s.slots.set c (s.cfSent c (s.slot c) now)
        actions := s.actions ++
          (if (s.slot c).bytesTransferred + s.chunk c (s.slot c) = (s.slot c).totalLength then
            [.sendDone (s.peer c) .ok] else []) } := by
  have hchunk : nextChunk (s.channel c) (s.slot c) = s.chunk c (s.slot c) := rfl
  unfold afterCf State.cfSent
  dsimp only
  rw [hchunk]
  by_cases hlast : (s.slot c).bytesTransferred + s.chunk c (s.slot c) = (s.slot c).totalLength
  · simp only [if_pos hlast]
    rw [complete_eq_finish]
    exact finish_setSlot_of_sending c .ok hc hdir
  simp only [if_neg hlast, List.append_nil]
  by_cases hsize : (s.slot c).blockSize = 0
  · rw [if_neg (not_not.mpr hsize), if_pos hsize, arm_setSlot _ _ _ hc]
    rfl
  rw [if_pos hsize, if_neg hsize]
  by_cases hused : (s.slot c).blockRemaining = 1
  · rw [if_pos (by rw [hused]), if_pos hused, arm_setSlot _ _ _ hc, hused]
    rfl
  · have hgoes : (s.slot c).blockRemaining - 1 ≠ 0 := by
      have := hblock hsize
      omega
    rw [if_neg hgoes, if_neg hused, arm_setSlot _ _ _ hc]
    rfl

/-! ### One slot's turn (46_tp_timers.md R293, R295) -/

/-- What slot `c` emits and holds after its turn, when `o` is the answer to the frame it offers, if it offers one. -/
def State.firedWith (s : State) (now c : Nat) (o : TxOutcome) : List Action × Slot :=
  if (s.slot c).expired now then
    match (s.slot c).timer with
    | .none => ([], s.slot c)
    | .bs => ([s.delivery c .timeoutBs], (s.slot c).freed)
    | .cr => ([s.delivery c .timeoutCr], (s.slot c).freed)
    | .st =>
      match o with
      | .done => (s.cfActions c (s.slot c), s.cfSent c (s.slot c) now)
      | .fail => ([.sendDone (s.peer c) .genericError], (s.slot c).freed)
      | .timeout => ([.sendDone (s.peer c) .timeoutA], (s.slot c).freed)
  else ([], s.slot c)

theorem firedWith_of_not_expired (o : TxOutcome) (hexp : (s.slot c).expired now = false) :
    s.firedWith now c o = ([], s.slot c) := by
  unfold State.firedWith
  rw [hexp, if_neg Bool.false_ne_true]

theorem firedWith_of_timer_st (o : TxOutcome) (hexp : (s.slot c).expired now = true) (hst : (s.slot c).timer = .st) :
    s.firedWith now c o =
      if o = .done then (s.cfActions c (s.slot c), s.cfSent c (s.slot c) now)
      else ([.sendDone (s.peer c) (txCode o)], (s.slot c).freed) := by
  unfold State.firedWith
  rw [if_pos hexp, hst]
  cases o <;> rfl

theorem fired_eq_firedWith (s : State) (now : Nat) (txo : List TxOutcome) (c : Nat) :
    s.fired now txo c = s.firedWith now c (s.answerAt now txo c) := rfl

section Congr

variable {t : State} (hparams : t.params = s.params) (hcfg : t.cfg = s.cfg)

include hparams

theorem peer_congr (c : Nat) : t.peer c = s.peer c := by
  rw [State.peer, State.channel, hparams, State.peer, State.channel]

theorem chunk_congr (c : Nat) (sl : Slot) : t.chunk c sl = s.chunk c sl := by
  rw [State.chunk, State.channel, hparams, State.chunk, State.channel]

include hcfg

theorem cfActions_congr (c : Nat) (sl : Slot) : t.cfActions c sl = s.cfActions c sl := by
  unfold State.cfActions State.cfTo
  rw [frameTo_congr hparams hcfg, chunk_congr hparams, peer_congr hparams, State.channel, hparams, State.channel]

theorem cfSent_congr (c : Nat) (sl : Slot) (now : Nat) : t.cfSent c sl now = s.cfSent c sl now := by
  unfold State.cfSent
  rw [chunk_congr hparams, hcfg]

/-- A turn is read off the slot, the parameters and the configuration. -/
theorem firedWith_congr (hslot : t.slot c = s.slot c) (o : TxOutcome) : t.firedWith now c o = s.firedWith now c o := by
  unfold State.firedWith
  rw [hslot, delivery_congr hparams hslot, delivery_congr hparams hslot, peer_congr hparams,
    cfActions_congr hparams hcfg, cfSent_congr hparams hcfg]

end Congr

theorem sendsAt_congr {t : State} (hslot : t.slot c = s.slot c) : t.sendsAt now c = s.sendsAt now c := by
  rw [State.sendsAt, hslot, State.sendsAt]

/-- The state after the turn of slot `c`. -/
def State.afterTurn (s : State) (now c : Nat) : State :=
  { s with
    txo := if s.sendsAt now c then s.txo.tail else s.txo
    slots := s.slots.set c (s.firedWith now c s.nextTx).2
    actions := s.actions ++ (s.firedWith now c s.nextTx).1 }

theorem set_slot_self (c : Nat) (s : State) : s.slots.set c (s.slot c) = s.slots := by
  by_cases h : c < s.slots.length
  · simp [State.slot, h]
  · exact List.set_eq_of_length_le (Nat.le_of_not_lt h)

/-- The turn of an expired St timer: the frame offered, and what follows either answer (45_tp_send.md R272, R277). -/
theorem sendNextCF_eq_afterTurn (hc : c < s.slots.length) (hexp : (s.slot c).expired now = true)
    (hst : (s.slot c).timer = .st) (hdir : (s.slot c).direction = .sending)
    (hblock : (s.slot c).blockSize ≠ 0 → 1 ≤ (s.slot c).blockRemaining) :
    sendNextCF c now s = s.afterTurn now c := by
  have hsends : s.sendsAt now c = true := by simp [State.sendsAt, hexp, hst]
  rw [sendNextCF_eq_offer, State.afterTurn, firedWith_of_timer_st _ hexp hst, if_pos hsends]
  by_cases hdone : s.nextTx = .done
  · rw [offer_of_done _ _ _ hdone, if_pos hdone, nextCfImage_eq]
    have hafter := afterCf_spec (now := now)
      (s := { s with txo := s.txo.tail, actions := s.actions ++ [.txFrame (s.cfTo c (s.slot c))] }) hc hdir hblock
    refine hafter.trans ?_
    simp only [List.append_assoc]
    rfl
  · rw [offer_of_lost _ _ _ hdone, if_neg hdone, delivery_of_sending _ hdir]

/-- One slot's turn, by the kind of its timer. That the slot is as the invariant says is needed for St alone. -/
theorem expireSlot_eq_afterTurn (hok : (s.slot c).ok s.mode (s.peer c) = true) :
    expireSlot now c s = s.afterTurn now c := by
  cases hexp : (s.slot c).expired now with
  | false =>
    rw [expireSlot_idle now c s hexp]
    simp [State.afterTurn, firedWith_of_not_expired _ hexp, State.sendsAt, hexp, set_slot_self]
  | true =>
    obtain ⟨hvalid, -⟩ := (expired_iff _ _).mp hexp
    have hc := lt_length_of_valid hvalid
    rw [expireSlot, if_pos hexp]
    cases htimer : (s.slot c).timer with
    | none => simp [State.afterTurn, State.firedWith, State.sendsAt, hexp, htimer, set_slot_self]
    | bs => simp [State.afterTurn, State.firedWith, State.sendsAt, hexp, htimer, abort_eq_finish, finish_spec]
    | cr => simp [State.afterTurn, State.firedWith, State.sendsAt, hexp, htimer, abort_eq_finish, finish_spec]
    | st =>
      obtain ⟨hdir, hblock⟩ := sending_of_timer_st hok hvalid htimer
      exact sendNextCF_eq_afterTurn hc hexp htimer hdir hblock

end Turn

/-! ### The pass (46_tp_timers.md R293) -/

/-- The pass part of the way: the channels below `n` have had their turn. -/
def State.firedBelow (s : State) (now n : Nat) : State :=
  { s with
    txo := s.txo.drop ((List.range n).countP (s.sendsAt now))
    slots := s.slots.mapIdx fun c sl => if c < n then (s.fired now s.txo c).2 else sl
    actions := s.actions ++ (List.range n).flatMap fun c => (s.fired now s.txo c).1 }

theorem firedBelow_zero (s : State) (now : Nat) : s.firedBelow now 0 = s := by
  have hslots : s.slots.mapIdx (fun _ sl => sl) = s.slots := List.ext_getElem (by simp) (by simp)
  simp [State.firedBelow, hslots]

/-- The turns already taken leave a later slot alone (10_state.md R27). -/
theorem slot_firedBelow (s : State) (now n : Nat) : (s.firedBelow now n).slot n = s.slot n := by
  by_cases h : n < s.slots.length <;> simp [State.slot, State.firedBelow, h]

/-- The outcomes are taken in ascending order (43_port.md R208). -/
theorem nextTx_firedBelow (s : State) (now n : Nat) : (s.firedBelow now n).nextTx = s.answerAt now s.txo n := by
  simp [State.nextTx, State.firedBelow, State.answerAt, List.headD_eq_head?_getD, List.head?_drop,
    List.getD_eq_getElem?_getD]

/-- One more entry of a partly rewritten table. -/
theorem mapIdx_lt_succ {α : Type} (f : Nat → α) (l : List α) (n : Nat) :
    l.mapIdx (fun c a => if c < n + 1 then f c else a) =
      (l.mapIdx fun c a => if c < n then f c else a).set n (f n) := by
  apply List.ext_getElem
  · simp
  · intro i hi _
    rcases Nat.lt_trichotomy i n with h | rfl | h
    · simp [h, Nat.le_of_lt h, Nat.ne_of_gt h]
    · simp
    · simp [Nat.not_le_of_lt h, Nat.lt_asymm h, Nat.ne_of_lt h]

theorem mapIdx_lt_length {α : Type} (f : Nat → α) (l : List α) :
    (l.mapIdx fun c a => if c < l.length then f c else a) = (List.range l.length).map f := by
  apply List.ext_getElem
  · simp
  · intro i hi _
    have hlt : i < l.length := by simpa using hi
    simp [hlt]

theorem afterTurn_firedBelow (s : State) (now n : Nat) :
    (s.firedBelow now n).afterTurn now n = s.firedBelow now (n + 1) := by
  have hfired : (s.firedBelow now n).firedWith now n (s.firedBelow now n).nextTx = s.fired now s.txo n := by
    rw [firedWith_congr (s := s) (t := s.firedBelow now n) rfl rfl (slot_firedBelow s now n),
      nextTx_firedBelow, fired_eq_firedWith]
  rw [State.afterTurn, hfired, sendsAt_congr (slot_firedBelow s now n)]
  simp only [State.firedBelow, mapIdx_lt_succ (fun c => (s.fired now s.txo c).2), List.range_succ, List.flatMap_append,
    List.countP_append, List.append_assoc, List.flatMap_cons, List.flatMap_nil, List.append_nil]
  cases hsends : s.sendsAt now n <;> simp [hsends]

/-- The whole pass, by induction on the channels that have had their turn. -/
theorem foldl_expireSlot (s : State) (now n : Nat) (hok : ∀ c < n, (s.slot c).ok s.mode (s.peer c) = true) :
    (List.range n).foldl (fun s c => expireSlot now c s) s = s.firedBelow now n := by
  induction n with
  | zero => exact (firedBelow_zero s now).symm
  | succ n ih =>
    have hslot : ((s.firedBelow now n).slot n).ok s.mode (s.peer n) = true := by
      rw [slot_firedBelow]
      exact hok n (Nat.lt_succ_self n)
    rw [List.range_succ, List.foldl_append, ih fun c hc => hok c (Nat.lt_succ_of_lt hc), List.foldl_cons,
      List.foldl_nil, expireSlot_eq_afterTurn hslot, afterTurn_firedBelow]

/-- Settles O27: with one slot for each channel the pass reaches them all. -/
theorem tickSendsNext : Obligations.TickSendsNext := by
  intro now txo s hinv
  obtain ⟨hlen, hok, -⟩ := hinv
  have hpass : expire now.toNat (startOp txo s) = (startOp txo s).firedBelow now.toNat s.params.nCh :=
    foldl_expireSlot (startOp txo s) now.toNat s.params.nCh hok
  change execTick now txo s = _
  rw [execTick, runOp_spec, hpass, ← hlen, ← mapIdx_lt_length]
  rfl

end Sys2Proof.Machine
end

section
/-! PROOFS. SEND (45_tp_send.md R256 to R263): its checks in order, then the SingleFrame, the refusal of a second
session, and the FirstFrame of a session that starts. -/

namespace Sys2Proof.Machine

/-! ### The channel of a peer (10_state.md R31) -/

/-- The channel `chan` gives is in the table and is that peer's. -/
theorem chan_eq_some {p : Params} {peer : PeerAddr} {c : Nat} (h : p.chan peer = some c) :
    c < p.nCh ∧ (p.channel c).peer = peer := by
  obtain ⟨hlt, hpeer, -⟩ := List.findIdx?_eq_some_iff_getElem.mp h
  refine ⟨hlt, ?_⟩
  rw [Params.channel, List.getD_eq_getElem _ _ hlt]
  exact of_decide_eq_true hpeer

/-! ### The mode gate (43_port.md R190) -/

/-- On a bound port the gate lets the operation through. -/
theorem runOp_trafficGate_bound (txo : List TxOutcome) (errno : Nat) (body : State → State) (s : State)
    (hmode : s.mode = .bound) :
    runOp txo (trafficGate errno body) s = .next (endOp (body (startOp txo s))) := by
  rw [runOp, trafficGate, startOp_mode, hmode]

/-! ### The checks of SEND (45_tp_send.md R256, R258) -/

@[simp] theorem startOp_channel (txo : List TxOutcome) (s : State) (c : Nat) :
    (startOp txo s).channel c = s.channel c := rfl

/-- What passes the three checks goes on to the expiry pass. -/
theorem exec_send_accepted {payload : Bytes} {peer : PeerAddr} {c : Nat} {rx : RxArgs} {s : State}
    (hmode : s.mode = .bound) (hchan : s.params.chan peer = some c) (hlen : payload.length ≤ 4294967295)
    (hpeer : payload.length ≤ (s.channel c).sfMax ∨ peer.taType = .physical) :
    exec (.send payload peer rx) s =
      .next (endOp (sendAccepted c payload peer rx.now.toNat (startOp rx.txo s))) := by
  have hfits : ¬ maxTotalLength < payload.length := Nat.not_lt.mpr hlen
  have hallowed : ¬ ((s.channel c).sfMax < payload.length ∧ peer.taType = .functional) := by
    rintro ⟨hlong, hfun⟩
    rcases hpeer with hshort | hphys
    · exact Nat.not_lt.mpr hshort hlong
    · rw [hphys] at hfun
      exact nomatch hfun
  change execSend payload peer rx s = _
  rw [execSend, runOp_trafficGate_bound _ _ _ _ hmode, startOp_params, hchan]
  dsimp only
  rw [if_neg hfits, startOp_channel, if_neg hallowed]

/-- Settles O49: each of the three inputs ends the operation before the pass. -/
theorem sendRefused : Obligations.SendRefused := by
  intro payload peer rx s hmode hrefused
  change execSend payload peer rx s = _
  rw [execSend, runOp_trafficGate_bound _ _ _ _ hmode, startOp_params]
  cases hchan : s.params.chan peer with
  | none => rfl
  | some c =>
    by_cases hlong : maxTotalLength < payload.length
    · dsimp only
      rw [if_pos hlong]
      rfl
    · obtain ⟨hmulti, hfun⟩ : (s.channel c).sfMax < payload.length ∧ peer.taType = .functional := by
        rcases hrefused with hnone | hmax | ⟨d, hd, hmulti, hfun⟩
        · rw [hchan] at hnone
          exact nomatch hnone
        · exact absurd hmax hlong
        · rw [hchan] at hd
          cases hd
          exact ⟨hmulti, hfun⟩
      dsimp only
      rw [if_neg hlong, startOp_channel, if_pos ⟨hmulti, hfun⟩]
      rfl

/-! ### After the expiry pass (45_tp_send.md R257, R259) -/

section Accepted

variable {payload : Bytes} {c : Nat} {s : State} {peer : PeerAddr} {now : BitVec 64} {txo : List TxOutcome}

theorem sendAccepted_single (hshort : payload.length ≤ (s.channel c).sfMax) :
    sendAccepted c payload peer now.toNat (startOp txo s) = sendSingle c payload peer (s.served now txo) :=
  if_pos (served_channel now txo s c ▸ hshort)

theorem sendAccepted_busy (hlong : (s.channel c).sfMax < payload.length)
    (hvalid : ((s.served now txo).slot c).valid = true) :
    sendAccepted c payload peer now.toNat (startOp txo s) =
      emit (.sendDone peer .genericError) (s.served now txo) :=
  (if_neg (served_channel now txo s c ▸ Nat.not_le.mpr hlong)).trans (if_pos hvalid)

theorem sendAccepted_start (hlong : (s.channel c).sfMax < payload.length)
    (hfree : ((s.served now txo).slot c).valid = false) :
    sendAccepted c payload peer now.toNat (startOp txo s) =
      startSending c payload now.toNat (s.served now txo) :=
  (if_neg (served_channel now txo s c ▸ Nat.not_le.mpr hlong)).trans (if_neg (Bool.not_eq_true _ ▸ hfree))

end Accepted

/-- Settles O48: the slot is found in use, and one delivery follows the pass. -/
theorem sendBusy : Obligations.SendBusy := by
  intro payload peer c rx s e hmode hchan hlong hlen hphys hvalid
  rw [exec_send_accepted hmode hchan hlen (.inr hphys), sendAccepted_busy hlong hvalid]
  exact congrArg _ (endOp_emit _ e (served_result _ _ _))

/-! ### The SingleFrame (45_tp_send.md R257) -/

theorem endOp_sendSingle (c : Nat) (payload : Bytes) (peer : PeerAddr) (e : State) (hres : e.result = .noValue) :
    endOp (sendSingle c payload peer e) =
      e.andThen
        ((if e.nextTx = .done then [.txFrame (e.frameTo c (mkSF (e.channel c) payload))] else []) ++
          [.sendDone peer (txCode e.nextTx)]) := by
  rw [sendSingle, tx_spec, tpFrame_eq_frameTo]
  refine (endOp_emit _ _ ?_).trans ?_
  · split <;> exact hres
  · split <;> simp [State.andThen, State.ended]

/-! ### The FirstFrame (45_tp_send.md R260 to R263) -/

/-- The slot of a session that starts, when its FirstFrame is offered. -/
def Slot.opened (old : Slot) (ch : Channel) (payload : Bytes) : Slot :=
  old.created .sending .awaitingFlowControl payload.length (ch.ffData payload.length) payload

/-- Once the Bs timer is armed, nothing of the old session is left. -/
theorem opened_armed (old : Slot) (ch : Channel) (payload : Bytes) (deadline : Nat) :
    { old.opened ch payload with timer := .bs, deadline := deadline } =
      Slot.mk true .sending .awaitingFlowControl payload.length (ch.ffData payload.length) 1 deadline 0 .bs 0 0 0
        payload := by
  rw [Slot.opened, Slot.created, memWrite_nil]

/-- The FirstFrame of a payload on channel `c`. -/
def State.ffTo (s : State) (c : Nat) (payload : Bytes) : Bytes :=
  s.frameTo c (mkFF (s.channel c) payload.length (payload.take ((s.channel c).ffData payload.length)))

/-- The frame offered is read back from the slot just created. -/
theorem firstFrameImage_opened (c : Nat) (payload : Bytes) (e : State) (hc : c < e.slots.length) :
    firstFrameImage c (setSlot c ((e.slot c).opened (e.channel c) payload) e) = e.ffTo c payload := by
  rw [firstFrameImage, slot_setSlot_self _ _ _ hc, Slot.opened, created_buf, created_totalLength, memWrite_nil]
  rfl

theorem startSending_eq_offer (c : Nat) (payload : Bytes) (now : Nat) (e : State) (hc : c < e.slots.length) :
    startSending c payload now e =
      offer c (e.ffTo c payload) (arm c .bs now) (setSlot c ((e.slot c).opened (e.channel c) payload) e) :=
  congrArg (fun image => offer c image (arm c .bs now) _) (firstFrameImage_opened c payload e hc)

section Start

variable {c : Nat} {e : State} (payload : Bytes) (now : Nat) (hc : c < e.slots.length) (hres : e.result = .noValue)

include hc hres

/-- The FirstFrame goes out: the session stands, with Bs armed (45_tp_send.md R261). -/
theorem endOp_startSending_of_done (hdone : e.nextTx = .done) :
    endOp (startSending c payload now e) =
      e.andThenSlot c
        { (e.slot c).opened (e.channel c) payload with timer := .bs, deadline := now + e.cfg.nBs.toNat }
        [.txFrame (e.ffTo c payload)] := by
  have hnext : (setSlot c ((e.slot c).opened (e.channel c) payload) e).nextTx = .done := hdone
  rw [startSending_eq_offer c payload now e hc, offer_of_done _ _ _ hnext, arm_spec, slot_of_slots_set hc rfl]
  simp [endOp, setSlot, State.andThenSlot, State.andThen, State.ended, hres, timerDuration]

/-- It does not: the session just created ends (45_tp_send.md R263). -/
theorem endOp_startSending_of_lost (hlost : e.nextTx ≠ .done) :
    endOp (startSending c payload now e) =
      e.andThenSlot c ((e.slot c).opened (e.channel c) payload).freed
        [.sendDone (e.peer c) (txCode e.nextTx)] := by
  have hslot := slot_setSlot_self c ((e.slot c).opened (e.channel c) payload) e hc
  have hdir := congrArg Slot.direction hslot
  have hnext : (setSlot c ((e.slot c).opened (e.channel c) payload) e).nextTx ≠ .done := hlost
  rw [startSending_eq_offer c payload now e hc, offer_of_lost _ _ _ hnext, delivery_of_sending _ hdir, hslot,
    nextTx_setSlot]
  simp [endOp, setSlot, State.andThenSlot, State.andThen, State.ended, hres, State.peer, State.channel]

end Start

/-- Settles O47: the FirstFrame is offered after the pass, and what becomes of the new slot follows the answer. -/
theorem sendStarts : Obligations.SendStarts := by
  intro payload peer c rx s e a total d lengthBytes hmode hlen hchan hlong hmax hphys hfree
  obtain ⟨hlt, hpeer⟩ := chan_eq_some hchan
  have hc : c < e.slots.length := by rw [served_length, hlen]; exact hlt
  have hres : e.result = .noValue := served_result _ _ _
  rw [exec_send_accepted hmode hchan hmax (.inr hphys), sendAccepted_start hlong hfree]
  refine ⟨fun hdone => ?_, fun code hcode => ⟨_, rfl, ?_⟩⟩
  · rw [endOp_startSending_of_done payload _ hc hres hdone]
    have hff : e.ffTo c payload = s.frameTo c ((s.channel c).extBytes ++ lengthBytes ++ payload.take d) := by
      rw [State.ffTo, served_frameTo, served_channel, mkFF_eq]
      rfl
    rw [hff, opened_armed, served_cfg, served_channel]
    rfl
  · have hlost : e.nextTx ≠ .done := by
      rcases hcode with ⟨h, -⟩ | ⟨h, -⟩ <;> rw [h] <;> exact nofun
    have htx : txCode e.nextTx = code := by
      rcases hcode with ⟨h, rfl⟩ | ⟨h, rfl⟩ <;> rw [h] <;> rfl
    have hep : e.peer c = peer := (served_peer _ _ _ _).trans hpeer
    rw [endOp_startSending_of_lost payload _ hc hres hlost, htx, hep, slot_of_slots_set hc rfl]
    exact ⟨rfl, rfl⟩

end Sys2Proof.Machine

/-! ### The SingleFrame's obligation, outside the namespace in which its name is that of the model's function -/

namespace Sys2Proof.Proofs

open Sys2Proof.Machine

/-- Settles O46: the frame, if it goes out, and the delivery follow the pass. -/
theorem sendSingle : Obligations.SendSingle := by
  intro payload peer c rx s e hmode hchan hshort
  have hlen : payload.length ≤ 4294967295 := by omega
  rw [exec_send_accepted hmode hchan hlen (.inl hshort), sendAccepted_single hshort,
    endOp_sendSingle c payload peer _ (served_result _ _ _), served_frameTo, served_channel]
  change _ = Host.Outcome.next (e.andThen _)
  cases e.nextTx <;> rfl

end Sys2Proof.Proofs
end

section
/-! PROOFS. What an instruction can do, said once for all of them: the rows that are an inbound unit by the frame they
stand for, the accesses to a register, and every instruction by the state it leaves. -/

namespace Sys2Proof.Machine

/-! ### The gate of an inbound unit (43_port.md R190, R205) -/

/-- An inbound unit in each mode: refused on a port that is not bound, else handled after the expiry pass. -/
theorem inbound_spec (rx : RxArgs) (body : State → State) (s : State) :
    inbound rx body s = .next
      (if s.mode = .closed then s.ended [] (.raised .closedError)
      else if s.mode = .unbound then s.ended [] (.raised (.systemCallError rx.errno))
      else endOp (body (s.served rx.now rx.txo))) := by
  rw [inbound, runOp, trafficGate, startOp_mode]
  cases s.mode <;> rfl

/-! ### Units that are an image (30_encoding.md R89, R94, R123) -/

/-- The unit a RX_RAW is about. -/
def rawRow : Instr → Option (Bytes × RxArgs)
  | .rxRaw bytes rx => some (bytes, rx)
  | _ => none

/-- The frame a row of group IMG or ERRFRM stands for. -/
def frameRow : Instr → Option (CanFrame × RxArgs)
  | .frameStdData b rx => some (⟨b.word &&& 0x7FF, false, false, false, b.len.toNat, b.payload⟩, rx)
  | .frameExtData b rx => some (⟨b.word, true, false, false, b.len.toNat, b.payload⟩, rx)
  | .frameStdRemote b rx => some (⟨b.word &&& 0x7FF, false, true, false, b.len.toNat, b.payload⟩, rx)
  | .frameExtRemote b rx => some (⟨b.word, true, true, false, b.len.toNat, b.payload⟩, rx)
  | .frameError eff rtr b rx | .errClassTimeout eff rtr b rx | .errClassLostArbitration eff rtr b rx
  | .errClassControllerError eff rtr b rx | .errClassProtocolViolation eff rtr b rx
  | .errClassTransceiverStatus eff rtr b rx | .errClassNoAck eff rtr b rx | .errClassBusOff eff rtr b rx
  | .errClassBusError eff rtr b rx | .errClassRestarted eff rtr b rx =>
    some (⟨b.word, eff, rtr, true, b.len.toNat, b.payload⟩, rx)
  | _ => none

/-- A frame whose length has been read but not yet looked at. -/
def checkedDeliver (f : CanFrame) (now : Nat) (s : State) : State :=
  if maxData < f.length then raise .formatError s else deliver f now s

theorem checkedDeliver_of_le {f : CanFrame} (now : Nat) (s : State) (h : f.length ≤ maxData) :
    checkedDeliver f now s = deliver f now s :=
  if_neg (Nat.not_lt.mpr h)

theorem checkedDeliver_of_lt {f : CanFrame} (now : Nat) (s : State) (h : maxData < f.length) :
    checkedDeliver f now s = raise .formatError s :=
  if_pos h

/-- A row of group IMG or ERRFRM is the arrival of its frame. -/
theorem exec_frameRow {i : Instr} {f : CanFrame} {rx : RxArgs} (s : State) (h : frameRow i = some (f, rx)) :
    exec i s = inbound rx (checkedDeliver f rx.now.toNat) s := by
  cases i <;> cases h <;> rfl

theorem exec_rxRaw (bytes : Bytes) (rx : RxArgs) (s : State) :
    exec (.rxRaw bytes rx) s =
      inbound rx
        (fun e =>
          match decodeImage e.params.wordOrder bytes with
          | none => raise .formatError e
          | some f => deliver f rx.now.toNat e) s := rfl

/-! ### Units that are a transport frame (30_encoding.md R96, R106) -/

/-- A FlowControl row's frame: its two bytes, or nothing that parses. -/
def fcPdu (fs : BitVec 4) (rest : Bytes) : Npdu :=
  if rest.length < 2 then .invalid else .fc fs (byteAt rest 0) (byteAt rest 1)

/-- What PduDecode makes of a row of group NPDU on channel `ch`. -/
def rowPdu (ch : Channel) : Instr → Npdu
  | .npduSf _ dl rest _ =>
    if ch.sfMax < dl.toNat ∨ rest.length < dl.toNat then .invalid else .sf (rest.take dl.toNat)
  | .npduFf32 _ rest _ =>
    let total := (wordOf (byteAt rest 0) (byteAt rest 1) (byteAt rest 2) (byteAt rest 3)).toNat
    if ch.aoff + 2 + rest.length ≠ 8 ∨ total ≤ 4095 then .invalid else .ff total (rest.drop 4)
  | .npduFf12 _ len rest _ =>
    if ch.aoff + 2 + rest.length ≠ 8 ∨ len.toNat ≤ ch.sfMax then .invalid else .ff len.toNat rest
  | .npduCf _ sn rest _ => if rest.length < 1 then .invalid else .cf sn rest
  | .npduFcCts _ rest _ => fcPdu 0 rest
  | .npduFcWait _ rest _ => fcPdu 1 rest
  | .npduFcOverflow _ rest _ => fcPdu 2 rest
  | .npduFcReserved3 _ rest _ => fcPdu 3 rest
  | .npduFcReserved4to7 _ low rest _ => fcPdu (1#2 ++ low) rest
  | .npduFcReserved8toF _ low rest _ => fcPdu (1#1 ++ low) rest
  | .npduUnknown4to7 _ low _ _ => .unknownType (hiNibble (1#2 ++ low))
  | .npduUnknown8toF _ low _ _ => .unknownType (hiNibble (1#1 ++ low))
  | _ => .invalid

/-- The bytes of a row of group NPDU, from its first PCI byte on. -/
def rowSize : Instr → Nat
  | .npduFf32 _ rest _ | .npduFf12 _ _ rest _ => 2 + rest.length
  | .npduSf _ _ rest _ | .npduCf _ _ rest _ | .npduFcCts _ rest _ | .npduFcWait _ rest _
  | .npduFcOverflow _ rest _ | .npduFcReserved3 _ rest _ | .npduFcReserved4to7 _ _ rest _
  | .npduFcReserved8toF _ _ rest _ | .npduUnknown4to7 _ _ rest _ | .npduUnknown8toF _ _ rest _ => 1 + rest.length
  | _ => 0

theorem handlePdu_ite (c now : Nat) (p : Prop) [Decidable p] (n : Npdu) (e : State) :
    handlePdu c now (if p then .invalid else n) e = if p then e else handlePdu c now n e := by
  split <;> rfl

/-- A row of group NPDU is the arrival of a frame that PduDecode reads as `rowPdu` says. -/
theorem exec_npduRow {i : Instr} {c : Nat} {rx : RxArgs} (s : State) (h : npduRow i = some (c, rx)) :
    exec i s =
      inboundPdu c (rowSize i) rx (fun e => handlePdu c rx.now.toNat (rowPdu (e.channel c) i) e) s := by
  cases i <;> cases h <;> simp only [rowPdu, fcPdu, handlePdu_ite] <;> rfl

/-- The arrival of a frame that fits, on a channel of a bound port. -/
theorem exec_npduRow_bound {i : Instr} {c : Nat} {rx : RxArgs} {s : State} (hrow : npduRow i = some (c, rx))
    (hmode : s.mode = .bound) (hc : c < s.params.nCh) (hfits : (s.channel c).aoff + rowSize i ≤ 8) :
    exec i s =
      .next (endOp (handlePdu c rx.now.toNat (rowPdu (s.channel c) i) (s.served rx.now rx.txo))) := by
  have hlen : ¬ maxData < ((s.served rx.now rx.txo).channel c).aoff + rowSize i := by
    rw [served_channel]
    exact Nat.not_lt.mpr hfits
  rw [exec_npduRow s hrow, inboundPdu, inbound_bound rx _ s hmode, if_neg hlen, served_params, if_pos hc,
    served_channel]

/-- The rows that are an inbound unit are those of the three kinds. -/
theorem inboundArgs_eq (i : Instr) :
    inboundArgs i =
      ((rawRow i).map Prod.snd <|> (frameRow i).map Prod.snd <|> (npduRow i).map Prod.snd) := by
  cases i <;> rfl

/-! ### Accesses to a register (43_port.md R197, R198) -/

/-- A row of group REG is the access to its register. -/
theorem exec_regRow {i : Instr} {r : Reg} {acc : RegAccess} (s : State) (h : regRow i = some (r, acc)) :
    exec i s = accessReg r acc s := by
  cases i <;> cases h <;> rfl

/-- A register read: the mode, then the operating system; nothing is written (43_port.md R197). -/
theorem runOp_readReg (r : Reg) (sysOk : Bool) (errno : Nat) (s : State) :
    runOp [] (readReg r sysOk errno) s = .next
      (if s.mode = .closed then s.ended [] (.raised .closedError)
      else if r.passThrough = true ∧ sysOk = false then s.ended [] (.raised (.systemCallError errno))
      else s.ended [] (.value (.value (regRead s.cfg r)))) := by
  rw [runOp_spec, readReg, configGate_spec, startOp_mode]
  by_cases hclosed : s.mode = .closed
  · rw [if_pos hclosed, if_pos hclosed]
    rfl
  rw [if_neg hclosed, if_neg hclosed]
  cases r.passThrough <;> cases sysOk <;> rfl

theorem exec_cfgRead (reg : BitVec 4) (r : Reg) (sysOk : Bool) (errno : Nat) (s : State)
    (hreg : regOfSelector reg = some r) :
    exec (.cfgRead reg sysOk errno) s = runOp [] (readReg r sysOk errno) s := by
  change execCfgRead reg sysOk errno s = _
  rw [execCfgRead, hreg]

theorem exec_cfgWrite_reserved {reg : BitVec 4} (v : Nat) (sysOk : Bool) (errno : Nat) (s : State)
    (hreg : regOfSelector reg = none) :
    exec (.cfgWrite reg v sysOk errno) s = .refused (.reservedRegister reg) := by
  change execCfgWrite reg v sysOk errno s = _
  rw [execCfgWrite, hreg]

theorem exec_cfgRead_reserved {reg : BitVec 4} (sysOk : Bool) (errno : Nat) (s : State)
    (hreg : regOfSelector reg = none) :
    exec (.cfgRead reg sysOk errno) s = .refused (.reservedRegister reg) := by
  change execCfgRead reg sysOk errno s = _
  rw [execCfgRead, hreg]

/-- The selectors that name no register (30_encoding.md R117). -/
theorem regOfSelector_eq_none_iff : ∀ reg : BitVec 4, regOfSelector reg = none ↔ 10 ≤ reg.toNat := by
  decide

/-! ### The filter operations (41_filter_set.md R160, R161) -/

/-- FILTER_READ: the mode, then the operating system; nothing is written. -/
theorem exec_filterRead (sysOk : Bool) (errno : Nat) (s : State) :
    exec (.filterRead sysOk errno) s = .next
      (if s.mode = .closed then s.ended [] (.raised .closedError)
      else if sysOk = false then s.ended [] (.raised (.systemCallError errno))
      else s.ended [] (.value (.filters ((storedFilters s.cfg).map filterDecode)))) := by
  change execFilterRead sysOk errno s = _
  rw [execFilterRead, runOp_spec, configGate_spec, startOp_mode]
  by_cases hclosed : s.mode = .closed
  · rw [if_pos hclosed, if_pos hclosed]
    rfl
  rw [if_neg hclosed, if_neg hclosed]
  cases sysOk <;> rfl

/-- A row of group FLTENT answers the filter of its pair. -/
theorem readPair_spec (p : RawFilter) (s : State) :
    readPair p s = .next (s.ended [] (.value (.filters [filterDecode p]))) := rfl

/-! ### TICK and SEND -/

/-- TICK is the expiry pass (46_tp_timers.md R294). -/
theorem exec_tick (now : BitVec 64) (txo : List TxOutcome) (s : State) :
    exec (.tick now txo) s = .next ((s.served now txo).andThen []) :=
  congrArg Host.Outcome.next (endOp_eq_andThen (s.served now txo) (served_result now txo s))

/-! ### Every instruction by the state it leaves -/

/-- What the handler of an inbound unit leaves; `e` is the state after the expiry pass. -/
inductive UnitEffect (now : Nat) (e : State) : State → Prop where
  | malformed : UnitEffect now e (raise .formatError e)
  | ignored : UnitEffect now e e
  | reported (r : ErrorReport) : UnitEffect now e (emit (.onErrorFrame r) e)
  | handled (c : Nat) (n : Npdu) (hc : c < e.params.nCh)
      (hn : (∃ f, n = pduDecode (e.channel c) f) ∨ ∃ i, n = rowPdu (e.channel c) i) :
      UnitEffect now e (handlePdu c now n e)

/-- What an instruction can leave. -/
inductive Effect (i : Instr) (s : State) : State → Prop where
  | quiet (r : OpResult) : Effect i s (s.ended [] r)
  | bound (name : Bytes) (hi : i = .bind name .ok) (hmode : s.mode = .unbound) :
      Effect i s { s.ended [] .noValue with mode := .bound }
  | closed (hi : i = .close) (hmode : s.mode ≠ .closed) :
      Effect i s { closeSessions (startOp [] s) with mode := .closed, txo := [] }
  | filters (fs : List Filter) (sysOk : Bool) (errno : Nat) (v : RetVal) (hi : i = .filterApply fs sysOk errno)
      (hlen : fs.length ≤ maxFilters) :
      Effect i s
        { s.ended [] (.value v) with cfg := { s.cfg with filters := fs.map filterEncode, filtersSet := true } }
  | register (r : Reg) (v : Nat)
      (hi : (regRow i).isSome = true ∨ ∃ reg v sysOk errno, i = .cfgWrite reg v sysOk errno) :
      Effect i s { s.ended [] .noValue with cfg := regWrite s.cfg r v }
  | ticked (now : BitVec 64) (txo : List TxOutcome) (hi : i = .tick now txo) :
      Effect i s ((s.served now txo).andThen [])
  | sent (payload : Bytes) (peer : PeerAddr) (rx : RxArgs) (c : Nat) (hi : i = .send payload peer rx)
      (hmode : s.mode = .bound) (hchan : s.params.chan peer = some c) (hlen : payload.length ≤ maxTotalLength)
      (hpeer : payload.length ≤ (s.channel c).sfMax ∨ peer.taType = .physical) :
      Effect i s (endOp (sendAccepted c payload peer rx.now.toNat (startOp rx.txo s)))
  | unit (rx : RxArgs) (u : State) (hi : inboundArgs i = some rx) (hmode : s.mode = .bound)
      (hu : UnitEffect rx.now.toNat (s.served rx.now rx.txo) u) : Effect i s (endOp u)

theorem lookup_eq_some {p : Params} {f : CanFrame} {c : Nat} (h : p.lookup f = some c) :
    c < p.nCh ∧ (p.channel c).accepts f = true := by
  obtain ⟨hlt, haccepts, -⟩ := List.findIdx?_eq_some_iff_getElem.mp h
  refine ⟨hlt, ?_⟩
  rw [Params.channel, List.getD_eq_getElem _ _ hlt]
  exact haccepts

theorem unitEffect_deliver (f : CanFrame) (now : Nat) (e : State) : UnitEffect now e (deliver f now e) := by
  cases herr : f.error with
  | true =>
    rw [deliver_of_error now e herr]
    exact .reported _
  | false =>
    rw [deliver_of_no_error now e herr]
    by_cases hign : f.remoteRequest = true ∨ e.params.lookup f = none
    · rw [tpRx_ignored now e hign]
      exact .ignored
    · obtain ⟨hdata, hsome⟩ := not_or.mp hign
      obtain ⟨c, hlookup⟩ := Option.ne_none_iff_exists'.mp hsome
      rw [tpRx_of_channel now e (Bool.not_eq_true _ ▸ hdata) hlookup]
      exact .handled c _ (lookup_eq_some hlookup).1 (.inl ⟨f, rfl⟩)

/-- The handler of an inbound unit, by its kind. -/
theorem exec_inbound {i : Instr} {rx : RxArgs} (hi : inboundArgs i = some rx) :
    ∃ body, (∀ s, exec i s = inbound rx body s) ∧ ∀ e, UnitEffect rx.now.toNat e (body e) := by
  have hkind := hi
  rw [inboundArgs_eq] at hkind
  cases hraw : rawRow i with
  | some r =>
    obtain ⟨bytes, rx'⟩ := r
    cases (Option.some.inj (by simpa [hraw] using hkind) : rx' = rx)
    obtain rfl : i = .rxRaw bytes rx := by cases i <;> cases hraw; rfl
    refine ⟨_, exec_rxRaw bytes rx, fun e => ?_⟩
    cases decodeImage e.params.wordOrder bytes with
    | none => exact .malformed
    | some f => exact unitEffect_deliver f _ e
  | none =>
    cases hframe : frameRow i with
    | some r =>
      obtain ⟨f, rx'⟩ := r
      cases (Option.some.inj (by simpa [hraw, hframe] using hkind) : rx' = rx)
      refine ⟨_, fun s => exec_frameRow s hframe, fun e => ?_⟩
      rw [checkedDeliver]
      split
      · exact .malformed
      · exact unitEffect_deliver f _ e
    | none =>
      cases hnpdu : npduRow i with
      | none => simp [hraw, hframe, hnpdu] at hkind
      | some r =>
        obtain ⟨c, rx'⟩ := r
        cases (Option.some.inj (by simpa [hraw, hframe, hnpdu] using hkind) : rx' = rx)
        refine ⟨_, fun s => exec_npduRow s hnpdu, fun e => ?_⟩
        dsimp only
        split
        · exact .malformed
        · split
          case isTrue hc => exact .handled c _ hc (.inr ⟨i, rfl⟩)
          case isFalse => exact .ignored

/-- The next state of an inbound unit, in each mode. -/
theorem effect_of_inboundArgs {i : Instr} {rx : RxArgs} {s t : State} (hi : inboundArgs i = some rx)
    (h : exec i s = .next t) : Effect i s t := by
  obtain ⟨body, hexec, hbody⟩ := exec_inbound hi
  rw [hexec, inbound_spec] at h
  cases h
  split_ifs with hclosed hunbound
  · exact .quiet _
  · exact .quiet _
  · refine .unit rx _ hi ?_ (hbody _)
    cases hmode : s.mode with
    | closed => exact absurd hmode hclosed
    | unbound => exact absurd hmode hunbound
    | bound => rfl

theorem effect_of_writeReg {i : Instr} {r : Reg} {v : Nat} {sysOk : Bool} {errno : Nat} {s t : State}
    (hi : (regRow i).isSome = true ∨ ∃ reg v sysOk errno, i = .cfgWrite reg v sysOk errno)
    (h : runOp [] (writeReg r v sysOk errno) s = .next t) : Effect i s t := by
  rw [runOp_writeReg] at h
  cases h
  split_ifs
  · exact .quiet _
  · exact .quiet _
  · exact .quiet _
  · exact .register r v hi

theorem effect_of_readReg {i : Instr} {r : Reg} {sysOk : Bool} {errno : Nat} {s t : State}
    (h : runOp [] (readReg r sysOk errno) s = .next t) : Effect i s t := by
  rw [runOp_readReg] at h
  cases h
  split_ifs <;> exact .quiet _

theorem effect_of_regRow {i : Instr} {r : Reg} {acc : RegAccess} {s t : State} (hi : regRow i = some (r, acc))
    (h : exec i s = .next t) : Effect i s t := by
  rw [exec_regRow s hi] at h
  cases acc with
  | read sysOk errno => exact effect_of_readReg h
  | write v sysOk errno => exact effect_of_writeReg (.inl (by rw [hi]; rfl)) h

theorem effect_bind {name : Bytes} {res : BindRes} {s t : State} (h : exec (.bind name res) s = .next t) :
    Effect (.bind name res) s t := by
  rw [bindResult name res s] at h
  cases h
  split_ifs with hclosed hbound hname
  · exact .quiet _
  · exact .quiet _
  · cases res with
    | notFound => exact .quiet _
    | sysFail errno => exact .quiet _
    | ok =>
      refine .bound name rfl ?_
      cases hmode : s.mode with
      | unbound => rfl
      | bound => exact absurd hmode hbound
      | closed => exact absurd hmode hclosed
  · exact .quiet _

theorem effect_send {payload : Bytes} {peer : PeerAddr} {rx : RxArgs} {s t : State}
    (h : exec (.send payload peer rx) s = .next t) : Effect (.send payload peer rx) s t := by
  have hexec : exec (.send payload peer rx) s = execSend payload peer rx s := rfl
  cases hmode : s.mode with
  | closed =>
    rw [hexec, execSend, runOp, trafficGate, startOp_mode, hmode] at h
    cases h
    exact .quiet (.raised .closedError)
  | unbound =>
    rw [hexec, execSend, runOp, trafficGate, startOp_mode, hmode] at h
    cases h
    exact .quiet (.raised (.systemCallError rx.errno))
  | bound =>
    by_cases haccepted : ∃ c, s.params.chan peer = some c ∧ payload.length ≤ maxTotalLength ∧
        (payload.length ≤ (s.channel c).sfMax ∨ peer.taType = .physical)
    · obtain ⟨c, hchan, hlen, hpeer⟩ := haccepted
      rw [exec_send_accepted hmode hchan hlen hpeer] at h
      cases h
      exact .sent payload peer rx c rfl hmode hchan hlen hpeer
    · have hrefused : s.params.chan peer = none ∨ 4294967295 < payload.length ∨
          ∃ c, s.params.chan peer = some c ∧ 7 - (s.channel c).aoff < payload.length ∧ peer.taType = .functional := by
        cases hchan : s.params.chan peer with
        | none => exact .inl rfl
        | some c =>
          by_cases hlen : payload.length ≤ maxTotalLength
          · have hno : ¬ (payload.length ≤ (s.channel c).sfMax ∨ peer.taType = .physical) :=
              fun hpeer => haccepted ⟨c, hchan, hlen, hpeer⟩
            obtain ⟨hlong, hfun⟩ := not_or.mp hno
            refine .inr (.inr ⟨c, rfl, Nat.not_le.mp hlong, ?_⟩)
            cases hta : peer.taType with
            | physical => exact absurd hta hfun
            | functional => rfl
          · exact .inr (.inl (Nat.not_le.mp hlen))
      rw [sendRefused payload peer rx s hmode hrefused] at h
      cases h
      exact .quiet _

/-- Every instruction leaves one of the states of `Effect`. -/
theorem exec_effect {i : Instr} {s t : State} (h : exec i s = .next t) : Effect i s t := by
  cases i with
  | encode id extended remoteRequest payload =>
    rw [exec_encode] at h
    cases h
    split_ifs <;> exact .quiet _
  | decode bytes =>
    rw [decodeResult bytes s] at h
    cases h
    split_ifs <;> exact .quiet _
  | filterApply fs sysOk errno =>
    rw [exec_filterApply] at h
    cases h
    split_ifs with hclosed hlen hsys
    · exact .quiet _
    · exact .quiet _
    · exact .quiet _
    · exact .filters fs sysOk errno _ rfl (Nat.not_lt.mp hlen)
  | filterRead sysOk errno =>
    rw [exec_filterRead] at h
    cases h
    split_ifs <;> exact .quiet _
  | errDecode f =>
    cases herr : f.error with
    | true =>
      rw [exec_errDecode_of_error f s herr] at h
      cases h
      exact .quiet _
    | false =>
      rw [exec_errDecode_of_no_error f s herr] at h
      exact nomatch h
  | bind name res => exact effect_bind h
  | close =>
    rw [exec_close] at h
    cases h
    split_ifs with hclosed
    · exact .quiet _
    · exact .closed rfl hclosed
  | cfgWrite reg v sysOk errno =>
    cases hreg : regOfSelector reg with
    | none =>
      rw [exec_cfgWrite_reserved v sysOk errno s hreg] at h
      exact nomatch h
    | some r =>
      rw [exec_cfgWrite reg r v sysOk errno s hreg] at h
      exact effect_of_writeReg (.inr ⟨_, _, _, _, rfl⟩) h
  | cfgRead reg sysOk errno =>
    cases hreg : regOfSelector reg with
    | none =>
      rw [exec_cfgRead_reserved sysOk errno s hreg] at h
      exact nomatch h
    | some r =>
      rw [exec_cfgRead reg r sysOk errno s hreg] at h
      exact effect_of_readReg h
  | send payload peer rx => exact effect_send h
  | tick now txo =>
    rw [exec_tick] at h
    cases h
    exact .ticked now txo rfl
  | opReserved12to15 low => exact nomatch h
  | regReserved10to11 low => exact nomatch h
  | regReserved12to15 low => exact nomatch h
  | regRxCapacity acc | regNBs acc | regNCr acc | regWftMax acc | regLocalStmin acc | regPadEn acc | regPadByte acc
  | regErrMask acc | regLoopback acc | regRecvOwn acc => exact effect_of_regRow rfl h
  | fltIdExtended p | fltIdInvert p | fltMaskTyped p =>
    cases (readPair_spec p s).symm.trans h
    exact .quiet _
  | _ => exact effect_of_inboundArgs rfl h

end Sys2Proof.Machine
end

section
/-! PROOFS. The handlers of the transport as equations: what each leaves, slot and actions written out, when the slot is
as the invariant has it (44_tp_receive.md, 45_tp_send.md). -/

namespace Sys2Proof.Machine

/-! ### The slot of a channel -/

theorem setSlot_slot_self (c : Nat) (s : State) : setSlot c (s.slot c) s = s := by
  rw [setSlot, set_slot_self]

theorem delivery_of_receiving {s : State} {c : Nat} (code : ResultCode) (hdir : (s.slot c).direction = .receiving)
    (hbuf : (s.slot c).buf.length = (s.slot c).bytesTransferred) :
    s.delivery c code = .onMessage (s.slot c).buf (s.peer c) code := by
  rw [State.delivery, hdir, ← hbuf, List.take_length]

/-- A reception of a slot that is as it may stand: its direction, what its buffer holds, and where it is
(10_state.md R26). -/
theorem receiving_of_accumulating {sl : Slot} {mode : Mode} {peer : PeerAddr} (hok : sl.ok mode peer = true)
    (hvalid : sl.valid = true) (hstate : sl.state = .accumulatingFF) :
    sl.direction = .receiving ∧ sl.buf.length = sl.bytesTransferred ∧ sl.bytesTransferred < sl.totalLength := by
  obtain ⟨-, ⟨hdir, hlt, -, -, -, hrecv, -⟩, -⟩ := (ok_iff sl mode peer).mp hok hvalid
  have hreceiving : sl.direction = .receiving := by
    cases h : sl.direction with
    | receiving => rfl
    | sending => exact absurd hstate (hdir.mp h)
  exact ⟨hreceiving, hrecv hreceiving, hlt⟩

theorem sending_of_awaiting {sl : Slot} {mode : Mode} {peer : PeerAddr} (hok : sl.ok mode peer = true)
    (hvalid : sl.valid = true) (hstate : sl.state = .awaitingFlowControl) : sl.direction = .sending := by
  obtain ⟨-, ⟨hdir, -⟩, -⟩ := (ok_iff sl mode peer).mp hok hvalid
  exact hdir.mpr (by rw [hstate]; exact nofun)

theorem chunk_le_left (s : State) (c : Nat) (sl : Slot) : s.chunk c sl ≤ sl.totalLength - sl.bytesTransferred :=
  Nat.min_le_right _ _

/-! ### ConsecutiveFrames received (44_tp_receive.md R240 to R244) -/

/-- The slot after a chunk was stored and the message is not complete. -/
def Slot.stored (sl : Slot) (chunk : Bytes) (deadline : Nat) : Slot :=
  { sl with
    buf := sl.buf ++ chunk
    bytesTransferred := sl.bytesTransferred + chunk.length
    expectedSequenceNumber := sl.expectedSequenceNumber + 1
    timer := .cr
    deadline := deadline }

/-- The slot after the last chunk was stored. -/
def Slot.filled (sl : Slot) (chunk : Bytes) : Slot :=
  { sl with valid := false, buf := sl.buf ++ chunk, bytesTransferred := sl.totalLength }

section Store

variable {c now : Nat} {data : Bytes} {s : State} (hc : c < s.slots.length)
  (hbuf : (s.slot c).buf.length = (s.slot c).bytesTransferred)
  (hlen : s.chunk c (s.slot c) ≤ data.length)

include hc hbuf hlen

theorem storeCf_last (hdir : (s.slot c).direction = .receiving)
    (hlast : (s.slot c).bytesTransferred + s.chunk c (s.slot c) = (s.slot c).totalLength) :
    storeCf c data now s =
      { s with
        slots := s.slots.set c ((s.slot c).filled (data.take (s.chunk c (s.slot c))))
        actions := s.actions ++
          [.onMessage ((s.slot c).buf ++ data.take (s.chunk c (s.slot c))) (s.peer c) .ok] } := by
  have hchunk : nextChunk (s.channel c) (s.slot c) = s.chunk c (s.slot c) := rfl
  have hfull : ((s.slot c).buf ++ data.take (s.chunk c (s.slot c))).length = (s.slot c).totalLength := by
    rw [List.length_append, List.length_take, Nat.min_eq_left hlen, hbuf, hlast]
  unfold storeCf
  dsimp only
  rw [hchunk, if_pos hlast, ← hbuf, memWrite_append, complete_eq_finish, finish_spec, slot_setSlot_self _ _ _ hc,
    hbuf, hlast, delivery_of_receiving .ok ?_ ?_, slot_setSlot_self _ _ _ hc]
  · simp [setSlot, Slot.freed, Slot.filled, State.peer, State.channel]
  · rw [slot_setSlot_self _ _ _ hc]
    exact hdir
  · rw [slot_setSlot_self _ _ _ hc]
    exact hfull

theorem storeCf_more
    (hmore : (s.slot c).bytesTransferred + s.chunk c (s.slot c) ≠ (s.slot c).totalLength) :
    storeCf c data now s =
      setSlot c ((s.slot c).stored (data.take (s.chunk c (s.slot c))) (now + s.cfg.nCr.toNat)) s := by
  have hchunk : nextChunk (s.channel c) (s.slot c) = s.chunk c (s.slot c) := rfl
  have hmoved : (data.take (s.chunk c (s.slot c))).length = s.chunk c (s.slot c) := by
    rw [List.length_take, Nat.min_eq_left hlen]
  unfold storeCf
  dsimp only
  rw [hchunk, if_neg hmore, ← hbuf, memWrite_append, arm_setSlot _ _ _ hc, Slot.stored, hmoved, hbuf]
  rfl

end Store

/-- A ConsecutiveFrame to a slot without a reception is reported (44_tp_receive.md R240). -/
theorem rxCF_unexpected {c : Nat} {s : State} (sn : BitVec 4) (data : Bytes) (now : Nat)
    (h : (s.slot c).valid = false ∨ (s.slot c).state ≠ .accumulatingFF) : rxCF c sn data now s = report c s :=
  if_pos h

/-- A ConsecutiveFrame to a reception, by its number and then its size (44_tp_receive.md R241, R242). -/
theorem rxCF_expected {c : Nat} {s : State} (sn : BitVec 4) (data : Bytes) (now : Nat)
    (h : ¬ ((s.slot c).valid = false ∨ (s.slot c).state ≠ .accumulatingFF)) :
    rxCF c sn data now s =
      if sn ≠ (s.slot c).expectedSequenceNumber then finish c .wrongSequenceNumber s
      else if data.length < s.chunk c (s.slot c) then s else storeCf c data now s :=
  if_neg h

/-! ### FirstFrames received (44_tp_receive.md R228 to R234) -/

/-- The slot of a reception that starts, when its FlowControl is offered. -/
def Slot.accepted (old : Slot) (total : Nat) (data : Bytes) : Slot :=
  old.created .receiving .accumulatingFF total data.length data

/-- Once the Cr timer is armed, nothing of the old session is left. -/
theorem accepted_armed (old : Slot) (total : Nat) (data : Bytes) (deadline : Nat) :
    { old.accepted total data with timer := .cr, deadline := deadline } =
      Slot.mk true .receiving .accumulatingFF total data.length 1 deadline 0 .cr 0 0 0 data := by
  rw [Slot.accepted, Slot.created, memWrite_nil]

/-- The FlowControl the block answers a FirstFrame with (44_tp_receive.md R233). -/
def State.fcTo (s : State) (c : Nat) : Bytes :=
  s.frameTo c ((s.channel c).extBytes ++ [0x30, 0x00, s.cfg.localStmin])

theorem startReceiving_eq_offer (c total : Nat) (data : Bytes) (now : Nat) (e : State) :
    startReceiving c total data now e =
      offer c (e.fcTo c) (arm c .cr now) (setSlot c ((e.slot c).accepted total data) e) := rfl

section Start

variable {c : Nat} {e : State} (total : Nat) (data : Bytes) (now : Nat) (hc : c < e.slots.length)

include hc

theorem startReceiving_of_done (hdone : e.nextTx = .done) :
    startReceiving c total data now e =
      { e with
        txo := e.txo.tail
        slots := e.slots.set c
          { (e.slot c).accepted total data with timer := .cr, deadline := now + e.cfg.nCr.toNat }
        actions := e.actions ++ [.txFrame (e.fcTo c)] } := by
  have hnext : (setSlot c ((e.slot c).accepted total data) e).nextTx = .done := hdone
  rw [startReceiving_eq_offer, offer_of_done _ _ _ hnext, arm_spec, slot_of_slots_set hc rfl]
  simp [setSlot, timerDuration]

theorem startReceiving_of_lost (hlost : e.nextTx ≠ .done) :
    startReceiving c total data now e =
      { e with
        txo := e.txo.tail
        slots := e.slots.set c ((e.slot c).accepted total data).freed
        actions := e.actions ++ [.onMessage data (e.peer c) (txCode e.nextTx)] } := by
  have hslot := slot_setSlot_self c ((e.slot c).accepted total data) e hc
  have hbuf : ((e.slot c).accepted total data).buf = data := memWrite_nil data
  have hnext : (setSlot c ((e.slot c).accepted total data) e).nextTx ≠ .done := hlost
  rw [startReceiving_eq_offer, offer_of_lost _ _ _ hnext, delivery_of_receiving _ (congrArg Slot.direction hslot) ?_,
    hslot, hbuf, nextTx_setSlot]
  · simp [setSlot, State.peer, State.channel]
  · rw [hslot, hbuf]
    rfl

end Start

/-! ### FlowControl received, ConsecutiveFrames sent (45_tp_send.md R265 to R277) -/

theorem rxFC_unexpected {c : Nat} {s : State} (fs : BitVec 4) (bs st : Byte) (now : Nat)
    (h : (s.slot c).valid = false ∨ (s.slot c).state ≠ .awaitingFlowControl) :
    rxFC c fs bs st now s = report c s :=
  if_pos h

/-- A FlowControl that its session awaits, by its flow status. -/
theorem rxFC_awaited {c : Nat} {s : State} (fs : BitVec 4) (bs st : Byte) (now : Nat)
    (hvalid : (s.slot c).valid = true) (hstate : (s.slot c).state = .awaitingFlowControl) :
    rxFC c fs bs st now s =
      if fs = 0 then sendNextCF c now (setSlot c ((s.slot c).continued bs st) s)
      else if fs = 1 then fcWait c now s
      else if fs = 2 then finish c .bufferOverflow s
      else finish c .invalidFlowStatus s := by
  have hno : ¬ ((s.slot c).valid = false ∨ (s.slot c).state ≠ .awaitingFlowControl) := by simp [hvalid, hstate]
  rw [rxFC, if_neg hno]
  have hfs : ∀ fs : BitVec 4, fs = 0 ∨ fs = 1 ∨ fs = 2 ∨ (fs ≠ 0 ∧ fs ≠ 1 ∧ fs ≠ 2 ∧ 3 ≤ fs.toNat) := by decide
  rcases hfs fs with rfl | rfl | rfl | ⟨h0, h1, h2, h3⟩
  · rfl
  · rfl
  · rfl
  · rw [if_neg h0, if_neg h1, if_neg h2]
    split
    · omega
    · omega
    · omega
    · rfl

section Send

variable {c now : Nat} {s : State} (hdir : (s.slot c).direction = .sending)

include hdir

theorem sendNextCF_of_done (hc : c < s.slots.length)
    (hblock : (s.slot c).blockSize ≠ 0 → 1 ≤ (s.slot c).blockRemaining) (hdone : s.nextTx = .done) :
    sendNextCF c now s =
      { s with
        txo := s.txo.tail
        slots := s.slots.set c (s.cfSent c (s.slot c) now)
        actions := s.actions ++ s.cfActions c (s.slot c) } := by
  have hafter := afterCf_spec (now := now)
    (s := { s with txo := s.txo.tail, actions := s.actions ++ [.txFrame (s.cfTo c (s.slot c))] }) hc hdir hblock
  rw [sendNextCF_eq_offer, offer_of_done _ _ _ hdone, nextCfImage_eq]
  refine hafter.trans ?_
  simp only [List.append_assoc]
  rfl

theorem sendNextCF_of_lost (hlost : s.nextTx ≠ .done) :
    sendNextCF c now s =
      { s with
        txo := s.txo.tail
        slots := s.slots.set c (s.slot c).freed
        actions := s.actions ++ [.sendDone (s.peer c) (txCode s.nextTx)] } := by
  rw [sendNextCF_eq_offer, offer_of_lost _ _ _ hlost, delivery_of_sending _ hdir]

end Send

section Wait

variable {c now : Nat} {s : State}

/-- A Wait past CFG.WFT_MAX (45_tp_send.md R268). -/
theorem fcWait_over (hc : c < s.slots.length) (hdir : (s.slot c).direction = .sending)
    (hover : s.cfg.wftMax.toNat < (s.slot c).waitFlowControlCount + 1) :
    fcWait c now s =
      { s with
        slots := s.slots.set c
          { s.slot c with waitFlowControlCount := (s.slot c).waitFlowControlCount + 1, valid := false }
        actions := s.actions ++ [.sendDone (s.peer c) .flowControlOverrun] } :=
  (if_pos hover).trans (finish_setSlot_of_sending c .flowControlOverrun hc hdir)

/-- A Wait that is tolerated (45_tp_send.md R268). -/
theorem fcWait_tolerated (hc : c < s.slots.length)
    (hwithin : ¬ s.cfg.wftMax.toNat < (s.slot c).waitFlowControlCount + 1) :
    fcWait c now s =
      setSlot c
        { s.slot c with
          waitFlowControlCount := (s.slot c).waitFlowControlCount + 1
          timer := .bs
          deadline := now + s.cfg.nBs.toNat } s :=
  (if_neg hwithin).trans (arm_setSlot c .bs now hc)

end Wait

end Sys2Proof.Machine
end

section
/-! PROOFS. The invariant (10_state.md R23 to R26, 43_port.md R193, 45_tp_send.md R283): what a slot needs to be as it may
stand, each handler, the expiry pass, every instruction, every step, and reset. -/

namespace Sys2Proof.Machine

/-! ### States that meet the invariant -/

/-- The invariant is read off the slots, the parameters, the mode and the configuration. -/
theorem inv_congr {s t : State} (hinv : s.Inv) (hparams : t.params = s.params) (hmode : t.mode = s.mode)
    (hfilters : t.cfg.filters = s.cfg.filters) (hslots : t.slots = s.slots) : t.Inv := by
  obtain ⟨hlen, hok, hfl⟩ := hinv
  refine ⟨by rw [hslots, hparams, hlen], fun c hc => ?_, by rw [hfilters]; exact hfl⟩
  rw [slot_congr hslots, hmode, peer_congr hparams]
  exact hok c (hparams ▸ hc)

/-- What writes one slot keeps the invariant when that slot is left as it may stand. -/
theorem inv_of_set {c : Nat} {sl : Slot} {s t : State} (hinv : s.Inv) (hparams : t.params = s.params)
    (hmode : t.mode = s.mode) (hcfg : t.cfg = s.cfg) (hslots : t.slots = s.slots.set c sl)
    (hsl : sl.ok s.mode (s.peer c) = true) : t.Inv := by
  obtain ⟨hlen, hok, hfl⟩ := hinv
  have hset : t.slots = (setSlot c sl s).slots := hslots
  refine ⟨by rw [hset, hparams, setSlot_slots, List.length_set, hlen], fun d hd => ?_, by rw [hcfg]; exact hfl⟩
  rw [hparams] at hd
  rw [slot_congr hset, hmode, peer_congr hparams]
  by_cases hdc : d = c
  · subst hdc
    rw [slot_setSlot_self _ _ _ (hlen.symm ▸ hd)]
    exact hsl
  · rw [slot_setSlot_other _ _ _ _ hdc]
    exact hok d hd

/-- A state without sessions meets the invariant in every mode. -/
theorem inv_of_no_session {s : State} (hlen : s.slots.length = s.params.nCh)
    (hfree : ∀ c, (s.slot c).valid = false) (hfl : s.cfg.filters.length ≤ maxFilters) : s.Inv :=
  ⟨hlen, fun c _ => ok_of_not_valid _ _ _ (hfree c), hfl⟩

/-- One slot for each channel (10_state.md R23). -/
theorem length_of_inv {s : State} (hinv : s.Inv) : s.slots.length = s.params.nCh := by
  obtain ⟨hlen, -, -⟩ := hinv
  exact hlen

/-- Every slot that can be read is as it may stand, within the table or beyond it. -/
theorem ok_of_inv {s : State} (hinv : s.Inv) (c : Nat) : (s.slot c).ok s.mode (s.peer c) = true := by
  obtain ⟨hlen, hok, -⟩ := hinv
  by_cases hc : c < s.params.nCh
  · exact hok c hc
  · rw [slot_beyond c s (by omega)]
    rfl

/-- Sessions stand on a bound port only (43_port.md R193). -/
theorem mode_of_valid {s : State} {c : Nat} (hinv : s.Inv) (hvalid : (s.slot c).valid = true) : s.mode = .bound :=
  ((ok_iff _ _ _).mp (ok_of_inv hinv c) hvalid).1

theorem physical_of_valid {s : State} {c : Nat} (hinv : s.Inv) (hvalid : (s.slot c).valid = true) :
    (s.peer c).taType = .physical := by
  obtain ⟨-, ⟨-, -, -, -, -, -, -, hphys⟩, -⟩ := (ok_iff _ _ _).mp (ok_of_inv hinv c) hvalid
  exact hphys

/-- A session that is ended leaves the invariant as it is. -/
theorem inv_finish {s : State} (hinv : s.Inv) (c : Nat) (code : ResultCode) : (finish c code s).Inv := by
  rw [finish_spec]
  exact inv_of_set hinv rfl rfl rfl rfl (ok_of_not_valid _ _ _ rfl)

theorem inv_emit {s : State} (hinv : s.Inv) (a : Action) : (emit a s).Inv := inv_congr hinv rfl rfl rfl rfl

/-! ### Slots as they may stand -/

/-- A sending session in its block, whatever timer it has: what the next ConsecutiveFrame needs (45_tp_send.md R272). -/
structure Slot.InBlock (sl : Slot) (peer : PeerAddr) : Prop where
  direction : sl.direction = .sending
  state : sl.state = .sendingConsecutive
  transferred : sl.bytesTransferred < sl.totalLength
  buffer : sl.buf.length = sl.totalLength
  physical : peer.taType = .physical
  ranges : sl.RangeInv

theorem Slot.InBlock.remaining {sl : Slot} {peer : PeerAddr} (h : sl.InBlock peer) :
    sl.blockSize ≠ 0 → 1 ≤ sl.blockRemaining := by
  obtain ⟨-, -, -, -, hblock, -⟩ := h.ranges
  exact fun hsize => (hblock h.state hsize).1

/-- A session whose St timer runs is in its block. -/
theorem inBlock_of_timer_st {sl : Slot} {mode : Mode} {peer : PeerAddr} (hok : sl.ok mode peer = true)
    (hvalid : sl.valid = true) (hst : sl.timer = .st) : sl.InBlock peer := by
  obtain ⟨hdir, -⟩ := sending_of_timer_st hok hvalid hst
  obtain ⟨-, ⟨-, hlt, -, -, hstate, -, hbuf, hphys⟩, hranges⟩ := (ok_iff sl mode peer).mp hok hvalid
  exact ⟨hdir, hstate.mp hst, hlt, hbuf hdir, hphys, hranges⟩

/-- A byte's separation time is at most 127 ms (30_encoding.md R110). -/
theorem continued_stMinUs_le (sl : Slot) (bs st : Byte) : (sl.continued bs st).stMinUs ≤ 127000 := by
  simp only [Slot.continued]
  split_ifs <;> omega

/-- A session that has taken a ContinueToSend is in its block (45_tp_send.md R267). -/
theorem inBlock_continued {sl : Slot} {mode : Mode} {peer : PeerAddr} (hok : sl.ok mode peer = true)
    (hvalid : sl.valid = true) (hstate : sl.state = .awaitingFlowControl) (bs st : Byte) :
    (sl.continued bs st).InBlock peer := by
  have hdir := sending_of_awaiting hok hvalid hstate
  obtain ⟨-, ⟨-, hlt, -, -, -, -, hbuf, hphys⟩, htotal, -⟩ := (ok_iff sl mode peer).mp hok hvalid
  have hbs : bs.toNat ≤ 255 := Nat.le_of_lt_succ bs.isLt
  have hblock : (sl.continued bs st).state = .sendingConsecutive → (sl.continued bs st).blockSize ≠ 0 →
      1 ≤ (sl.continued bs st).blockRemaining ∧ (sl.continued bs st).blockRemaining ≤ (sl.continued bs st).blockSize :=
    fun _ hsize => ⟨Nat.pos_of_ne_zero hsize, Nat.le_refl _⟩
  exact ⟨hdir, rfl, hlt, hbuf hdir, hphys, htotal, Nat.zero_le _, hbs, hbs, hblock, continued_stMinUs_le sl bs st⟩

/-- The slot after a ConsecutiveFrame that went out is as it may stand, in each of the four branches of R276. -/
theorem ok_cfSent {s : State} {c : Nat} {sl : Slot} (now : Nat) (hmode : s.mode = .bound) (h : sl.InBlock (s.peer c)) :
    (s.cfSent c sl now).ok s.mode (s.peer c) = true := by
  obtain ⟨hdir, hstate, hlt, hbuf, hphys, htotal, hwait, hsize, hrem, hblock, hst⟩ := h
  have hchunk := chunk_le_left s c sl
  rw [ok_iff]
  unfold State.cfSent
  dsimp only
  by_cases hlast : sl.bytesTransferred + s.chunk c sl = sl.totalLength
  · rw [if_pos hlast]
    exact nofun
  rw [if_neg hlast]
  have hmore : sl.bytesTransferred + s.chunk c sl < sl.totalLength := by omega
  intro _
  by_cases hnoblock : sl.blockSize = 0
  · rw [if_pos hnoblock]
    simp_all [Slot.SessionInv, Slot.RangeInv]
  rw [if_neg hnoblock]
  obtain ⟨hone, hwithin⟩ := hblock hstate hnoblock
  by_cases hused : sl.blockRemaining = 1
  · rw [if_pos hused]
    simp_all [Slot.SessionInv, Slot.RangeInv]
  · rw [if_neg hused]
    have hnext : 1 ≤ sl.blockRemaining - 1 ∧ sl.blockRemaining - 1 ≤ sl.blockSize ∧ sl.blockRemaining - 1 ≤ 255 := by
      omega
    obtain ⟨hone', hwithin', hrange⟩ := hnext
    simp only [Slot.SessionInv, Slot.RangeInv, hdir, hstate, hbuf, hphys, hmode]
    simp [hmore, htotal, hwait, hsize, hst, hone', hwithin', hrange]

/-- A reception that has stored a chunk and is not complete is as it may stand. -/
theorem ok_stored {sl : Slot} {mode : Mode} {peer : PeerAddr} (chunk : Bytes) (deadline : Nat)
    (hok : sl.ok mode peer = true) (hvalid : sl.valid = true) (hstate : sl.state = .accumulatingFF)
    (hmore : sl.bytesTransferred + chunk.length < sl.totalLength) :
    (sl.stored chunk deadline).ok mode peer = true := by
  obtain ⟨hdir, hbuf, -⟩ := receiving_of_accumulating hok hvalid hstate
  obtain ⟨hmode, ⟨-, -, -, -, -, -, -, hphys⟩, hranges⟩ := (ok_iff sl mode peer).mp hok hvalid
  rw [ok_iff]
  intro _
  refine ⟨hmode, ?_, hranges⟩
  simp [Slot.SessionInv, Slot.stored, hdir, hstate, hbuf, hmore, hphys]

/-- A session that has counted a Wait is as it may stand: the count is within CFG.WFT_MAX, a byte. -/
theorem ok_waited {sl : Slot} {mode : Mode} {peer : PeerAddr} {wftMax : BitVec 8} (deadline : Nat)
    (hok : sl.ok mode peer = true) (hvalid : sl.valid = true) (hstate : sl.state = .awaitingFlowControl)
    (hwithin : sl.waitFlowControlCount + 1 ≤ wftMax.toNat) :
    ({ sl with
        waitFlowControlCount := sl.waitFlowControlCount + 1, timer := .bs, deadline := deadline } : Slot).ok mode peer =
      true := by
  have hdir := sending_of_awaiting hok hvalid hstate
  obtain ⟨hmode, ⟨-, hlt, -, -, -, -, hbuf, hphys⟩, htotal, -, hranges⟩ := (ok_iff sl mode peer).mp hok hvalid
  have hcount : sl.waitFlowControlCount + 1 ≤ 255 := Nat.le_trans hwithin (Nat.le_of_lt_succ wftMax.isLt)
  rw [ok_iff]
  intro _
  refine ⟨hmode, ?_, htotal, hcount, hranges⟩
  simp [Slot.SessionInv, hdir, hstate, hlt, hbuf hdir, hphys]

/-! ### The handlers -/

theorem inv_sendNextCF {c now : Nat} {sl : Slot} {s : State} (hinv : s.Inv) (hc : c < s.slots.length)
    (hmode : s.mode = .bound) (h : sl.InBlock (s.peer c)) : (sendNextCF c now (setSlot c sl s)).Inv := by
  have hslot := slot_setSlot_self c sl s hc
  have hlen : c < (setSlot c sl s).slots.length := by simpa using hc
  have hdir : ((setSlot c sl s).slot c).direction = .sending := hslot.symm ▸ h.direction
  by_cases hdone : (setSlot c sl s).nextTx = .done
  · rw [sendNextCF_of_done hdir hlen (hslot.symm ▸ h.remaining) hdone, hslot]
    exact inv_of_set hinv rfl rfl rfl (List.set_set ..) (ok_cfSent now hmode h)
  · rw [sendNextCF_of_lost hdir hdone]
    exact inv_of_set hinv rfl rfl rfl (List.set_set ..) (ok_of_not_valid _ _ _ rfl)

theorem inv_expireSlot {s : State} (hinv : s.Inv) (now c : Nat) : (expireSlot now c s).Inv := by
  rw [expireSlot]
  split
  case isFalse => exact hinv
  case isTrue hexp =>
    obtain ⟨hvalid, -⟩ := (expired_iff _ _).mp hexp
    split
    case h_1 => exact inv_finish hinv c _
    case h_2 => exact inv_finish hinv c _
    case h_3 hst =>
      have hsends := inv_sendNextCF (now := now) hinv (lt_length_of_valid hvalid) (mode_of_valid hinv hvalid)
        (inBlock_of_timer_st (ok_of_inv hinv c) hvalid hst)
      rwa [setSlot_slot_self] at hsends
    case h_4 => exact hinv

theorem inv_expire {s : State} (hinv : s.Inv) (now : Nat) : (expire now s).Inv := by
  rw [expire]
  exact List.foldlRecOn _ _ hinv fun s h c _ => inv_expireSlot h now c

theorem inv_served {s : State} (hinv : s.Inv) (now : BitVec 64) (txo : List TxOutcome) : (s.served now txo).Inv :=
  inv_expire (inv_congr (t := startOp txo s) hinv rfl rfl rfl rfl) now.toNat

theorem inv_rxSF {s : State} (hinv : s.Inv) (c : Nat) (data : Bytes) : (rxSF c data s).Inv := by
  rw [rxSF]
  split
  · exact inv_emit (inv_finish hinv c _) _
  · exact inv_emit hinv _

theorem inv_rxCF {s : State} (hinv : s.Inv) (c : Nat) (sn : BitVec 4) (data : Bytes) (now : Nat) :
    (rxCF c sn data now s).Inv := by
  have hok := ok_of_inv hinv c
  by_cases hno : (s.slot c).valid = false ∨ (s.slot c).state ≠ .accumulatingFF
  · rw [rxCF_unexpected sn data now hno]
    exact inv_emit hinv _
  obtain ⟨hvalid, hstate⟩ : (s.slot c).valid = true ∧ (s.slot c).state = .accumulatingFF := by simpa using hno
  rw [rxCF_expected sn data now hno]
  split_ifs with hsn hshort
  · exact inv_finish hinv c _
  · exact hinv
  obtain ⟨hdir, hbuf, hlt⟩ := receiving_of_accumulating hok hvalid hstate
  have hlen : s.chunk c (s.slot c) ≤ data.length := Nat.not_lt.mp hshort
  have hchunk := chunk_le_left s c (s.slot c)
  have hc := lt_length_of_valid hvalid
  by_cases hlast : (s.slot c).bytesTransferred + s.chunk c (s.slot c) = (s.slot c).totalLength
  · rw [storeCf_last hc hbuf hlen hdir hlast]
    exact inv_of_set hinv rfl rfl rfl rfl (ok_of_not_valid _ _ _ rfl)
  · rw [storeCf_more hc hbuf hlen hlast]
    refine inv_of_set hinv rfl rfl rfl rfl (ok_stored _ _ hok hvalid hstate ?_)
    rw [List.length_take, Nat.min_eq_left hlen]
    omega

theorem inv_rxFC {s : State} (hinv : s.Inv) (c : Nat) (fs : BitVec 4) (bs st : Byte) (now : Nat) :
    (rxFC c fs bs st now s).Inv := by
  by_cases hno : (s.slot c).valid = false ∨ (s.slot c).state ≠ .awaitingFlowControl
  · rw [rxFC_unexpected fs bs st now hno]
    exact inv_emit hinv _
  obtain ⟨hvalid, hstate⟩ : (s.slot c).valid = true ∧ (s.slot c).state = .awaitingFlowControl := by simpa using hno
  have hok := ok_of_inv hinv c
  have hc := lt_length_of_valid hvalid
  have hdir := sending_of_awaiting hok hvalid hstate
  rw [rxFC_awaited fs bs st now hvalid hstate]
  split_ifs
  · exact inv_sendNextCF hinv hc (mode_of_valid hinv hvalid) (inBlock_continued hok hvalid hstate bs st)
  · by_cases hover : s.cfg.wftMax.toNat < (s.slot c).waitFlowControlCount + 1
    · rw [fcWait_over hc hdir hover]
      exact inv_of_set hinv rfl rfl rfl rfl (ok_of_not_valid _ _ _ rfl)
    · rw [fcWait_tolerated hc hover]
      exact inv_of_set hinv rfl rfl rfl rfl (ok_waited _ hok hvalid hstate (Nat.not_lt.mp hover))
  · exact inv_finish hinv c _
  · exact inv_finish hinv c _

/-- A session that starts receiving is as it may stand: its first chunk is shorter than the message. -/
theorem inv_startReceiving {s : State} (hinv : s.Inv) (hmode : s.mode = .bound) {c total : Nat} {data : Bytes}
    (now : Nat) (hc : c < s.slots.length) (hphys : (s.peer c).taType = .physical) (hdata : data.length < total)
    (htotal : total ≤ maxTotalLength) : (startReceiving c total data now s).Inv := by
  by_cases hdone : s.nextTx = .done
  · rw [startReceiving_of_done total data now hc hdone, accepted_armed]
    refine inv_of_set hinv rfl rfl rfl rfl ((ok_iff _ _ _).mpr fun _ => ?_)
    simp [Slot.SessionInv, Slot.RangeInv, hmode, hphys, hdata, htotal]
  · rw [startReceiving_of_lost total data now hc hdone]
    exact inv_of_set hinv rfl rfl rfl rfl (ok_of_not_valid _ _ _ rfl)

theorem inv_rxFF {s : State} (hinv : s.Inv) (hmode : s.mode = .bound) {c : Nat} {total : Nat} {data : Bytes} (now : Nat)
    (hc : c < s.slots.length) (hdata : data.length < total) (htotal : total ≤ maxTotalLength) :
    (rxFF c total data now s).Inv := by
  rw [rxFF]
  split_ifs with hfun hcap hvalid
  · exact hinv
  · exact inv_emit hinv _
  · split
    · exact inv_emit hinv _
    · have honly := onlySlot_finish c .unexpectedPdu s
      have hphys : ((finish c .unexpectedPdu s).peer c).taType = .physical := by
        rw [peer_congr honly.params]
        exact physical_of_valid hinv hvalid
      exact inv_startReceiving (inv_finish hinv c _) (honly.mode.trans hmode) now (honly.length.symm ▸ hc) hphys hdata
        htotal
  · refine inv_startReceiving hinv hmode now hc ?_ hdata htotal
    cases hta : (s.peer c).taType with
    | physical => rfl
    | functional => exact absurd hta hfun

/-- What PduDecode gives fits its message: a FirstFrame holds less than the length it advertises (30_encoding.md R106). -/
def Npdu.fits : Npdu → Prop
  | .ff total data => data.length < total ∧ total ≤ maxTotalLength
  | .sf _ | .cf _ _ | .fc _ _ _ | .unknownType _ | .invalid => True

theorem inv_handlePdu {s : State} (hinv : s.Inv) (hmode : s.mode = .bound) {c : Nat} (now : Nat) {n : Npdu}
    (hc : c < s.slots.length) (hn : n.fits) : (handlePdu c now n s).Inv := by
  cases n with
  | invalid => exact hinv
  | sf data => exact inv_rxSF hinv c data
  | ff total data =>
    obtain ⟨hdata, htotal⟩ := hn
    exact inv_rxFF hinv hmode now hc hdata htotal
  | cf sn data => exact inv_rxCF hinv c sn data now
  | fc fs bs st => exact inv_rxFC hinv c fs bs st now
  | unknownType t => exact inv_emit hinv _

theorem word_le_maxTotalLength (w : Word) : w.toNat ≤ maxTotalLength := Nat.le_of_lt_succ w.isLt

theorem aoff_le_one (ch : Channel) : ch.aoff ≤ 1 := by
  rw [Channel.aoff]
  split <;> decide

theorem fits_pduDecode (ch : Channel) (f : CanFrame) : (pduDecode ch f).fits := by
  have haoff := aoff_le_one ch
  have htake : (f.payload.take 8).length ≤ 8 := List.length_take_le ..
  unfold pduDecode
  dsimp only
  split
  · trivial
  split
  · split_ifs <;> trivial
  · split_ifs with hlen hl12 hsf h32
    · trivial
    · trivial
    · simp only [Channel.sfMax, not_le] at hsf
      refine ⟨?_, Nat.le_trans (Nat.le_of_lt (BitVec.isLt _)) (by decide)⟩
      rw [List.length_drop]
      omega
    · trivial
    · refine ⟨?_, word_le_maxTotalLength _⟩
      rw [List.length_drop]
      omega
  · split_ifs <;> trivial
  · split_ifs <;> trivial
  · trivial

theorem fits_rowPdu (ch : Channel) (i : Instr) : (rowPdu ch i).fits := by
  have hfc (fs : BitVec 4) (rest : Bytes) : (fcPdu fs rest).fits := by
    rw [fcPdu]
    split <;> trivial
  cases i with
  | npduFf32 c rest rx =>
    dsimp only [rowPdu]
    split_ifs with h
    · trivial
    · refine ⟨?_, word_le_maxTotalLength _⟩
      rw [List.length_drop]
      omega
  | npduFf12 c len rest rx =>
    dsimp only [rowPdu]
    split_ifs with h
    · trivial
    · simp only [Channel.sfMax, not_or, not_not, not_le] at h
      refine ⟨by omega, Nat.le_trans (Nat.le_of_lt len.isLt) (by decide)⟩
  | npduSf c dl rest rx =>
    dsimp only [rowPdu]
    split_ifs <;> trivial
  | npduCf c sn rest rx =>
    dsimp only [rowPdu]
    split_ifs <;> trivial
  | npduFcCts c rest rx | npduFcWait c rest rx | npduFcOverflow c rest rx | npduFcReserved3 c rest rx
  | npduFcReserved4to7 c low rest rx | npduFcReserved8toF c low rest rx => exact hfc _ _
  | _ => trivial

/-! ### Every instruction -/

theorem inv_endOp {s : State} (hinv : s.Inv) : (endOp s).Inv := inv_congr hinv rfl rfl rfl rfl

theorem inv_unitEffect {now : Nat} {e u : State} (hinv : e.Inv) (hmode : e.mode = .bound) (hu : UnitEffect now e u) :
    u.Inv := by
  cases hu with
  | malformed => exact inv_congr hinv rfl rfl rfl rfl
  | ignored => exact hinv
  | reported r => exact inv_emit hinv _
  | handled c n hc hn =>
    refine inv_handlePdu hinv hmode now ((length_of_inv hinv).symm ▸ hc) ?_
    obtain ⟨f, rfl⟩ | ⟨i, rfl⟩ := hn
    · exact fits_pduDecode _ f
    · exact fits_rowPdu _ i

/-- SEND after its checks: a SingleFrame and a busy slot write no slot, and the FirstFrame of a session that starts holds
less than a payload over SF_MAX. -/
theorem inv_sendAccepted {payload : Bytes} {peer : PeerAddr} {c : Nat} {now : BitVec 64} {txo : List TxOutcome}
    {s : State} (hinv : s.Inv) (hmode : s.mode = .bound) (hchan : s.params.chan peer = some c)
    (hmax : payload.length ≤ maxTotalLength) (hpeer : payload.length ≤ (s.channel c).sfMax ∨ peer.taType = .physical) :
    (endOp (sendAccepted c payload peer now.toNat (startOp txo s))).Inv := by
  have he := inv_served hinv now txo
  have hres := served_result now txo s
  obtain ⟨hlt, hp⟩ := chan_eq_some hchan
  by_cases hshort : payload.length ≤ (s.channel c).sfMax
  · rw [sendAccepted_single hshort, endOp_sendSingle c payload peer _ hres]
    exact inv_congr he rfl rfl rfl rfl
  have hlong := Nat.not_le.mp hshort
  cases hvalid : ((s.served now txo).slot c).valid with
  | true =>
    rw [sendAccepted_busy hlong hvalid]
    exact inv_endOp (inv_emit he _)
  | false =>
    have hc : c < (s.served now txo).slots.length := by rw [served_length, length_of_inv hinv]; exact hlt
    rw [sendAccepted_start hlong hvalid]
    by_cases hdone : (s.served now txo).nextTx = .done
    · rw [endOp_startSending_of_done payload _ hc hres hdone, opened_armed]
      refine inv_of_set he rfl rfl rfl rfl ((ok_iff _ _ _).mpr fun _ => ?_)
      have hphys : (s.peer c).taType = .physical := by
        have hpc : s.peer c = peer := hp
        rw [hpc]
        exact hpeer.resolve_left hshort
      have hfirst : (s.channel c).ffData payload.length < payload.length := by
        rw [Channel.ffData]
        rw [Channel.sfMax] at hlong
        split <;> omega
      simp [Slot.SessionInv, Slot.RangeInv, hmode, hphys, hfirst, hmax]
    · rw [endOp_startSending_of_lost payload _ hc hres hdone]
      exact inv_of_set he rfl rfl rfl rfl (ok_of_not_valid _ _ _ rfl)

/-- On a port that is not bound no slot holds a session. -/
theorem not_valid_of_unbound {s : State} (hinv : s.Inv) (hmode : s.mode ≠ .bound) (c : Nat) :
    (s.slot c).valid = false := by
  cases hvalid : (s.slot c).valid with
  | false => rfl
  | true => exact absurd (mode_of_valid hinv hvalid) hmode

theorem slot_of_slots_map_freed {s t : State} (h : t.slots = s.slots.map Slot.freed) (c : Nat) :
    (t.slot c).valid = false := by
  rw [State.slot, h]
  by_cases hc : c < s.slots.length <;> simp [hc, Slot.idle]

/-- Every instruction keeps the invariant, by the state it leaves. -/
theorem inv_exec {i : Instr} {s t : State} (hinv : s.Inv) (h : exec i s = .next t) : t.Inv := by
  obtain ⟨hlength, hok, hfilters⟩ := hinv
  have hinv : s.Inv := ⟨hlength, hok, hfilters⟩
  cases exec_effect h with
  | quiet r => exact inv_congr hinv rfl rfl rfl rfl
  | bound name hi hmode =>
    have hfree := not_valid_of_unbound hinv (by rw [hmode]; exact nofun)
    exact inv_of_no_session hlength hfree hfilters
  | closed hi hmode =>
    rw [closeSessions_eq (startOp [] s) hlength]
    exact inv_of_no_session (List.length_map ..|>.trans hlength) (slot_of_slots_map_freed rfl) hfilters
  | filters fs sysOk errno v hi hlen => exact ⟨hlength, hok, by simpa using hlen⟩
  | register r v hi => exact inv_congr hinv rfl rfl (regWrite_filters s.cfg r v) rfl
  | ticked now txo hi => exact inv_congr (inv_served hinv now txo) rfl rfl rfl rfl
  | sent payload peer rx c hi hmode hchan hlen hpeer => exact inv_sendAccepted hinv hmode hchan hlen hpeer
  | unit rx u hi hmode hu =>
    exact inv_endOp (inv_unitEffect (inv_served hinv rx.now rx.txo) (by rw [served_mode, hmode]) hu)

/-! ### A step (00_scope.md R16; log entry 4) -/

theorem step_of_decoded {s : State} {r : Request} {rest : List Request} {i : Instr} (hpending : s.pending = r :: rest)
    (hdec : decode s.params.wordOrder r = .ok i) : step s = exec i { s with pending := rest } := by
  simp only [step, fetch, hpending, hdec]

theorem step_of_rejected {s : State} {r : Request} {rest : List Request} {why : DecodeError}
    (hpending : s.pending = r :: rest) (hdec : decode s.params.wordOrder r = .rejected why) :
    step s = .refused (.badRequest why) := by
  simp only [step, fetch, hpending, hdec]

/-- Settles O54: the request fetched is the oldest, and its decoding is run or refused. -/
theorem stepRuns : Obligations.StepRuns := by
  intro s
  exact ⟨step_at_rest s, fun r rest hpending =>
    ⟨fun i hdec => step_of_decoded hpending hdec, fun why hdec => step_of_rejected hpending hdec⟩⟩

/-- Settles O58: a step that answers a next state is at rest or runs an instruction, and each instruction keeps the
invariant. -/
theorem stepKeepsInv : Obligations.StepKeepsInv := by
  intro s t hinv h
  cases hpending : s.pending with
  | nil =>
    rw [step_at_rest s hpending] at h
    cases h
    exact hinv
  | cons r rest =>
    cases hdec : decode s.params.wordOrder r with
    | rejected why =>
      rw [step_of_rejected hpending hdec] at h
      exact nomatch h
    | ok i =>
      rw [step_of_decoded hpending hdec] at h
      exact inv_exec (inv_congr (t := { s with pending := rest }) hinv rfl rfl rfl rfl) h

/-! ### Reset (10_state.md R41, 70_reset_and_hazards.md R350) -/

theorem resetWith_slot (p : Params) (c : Nat) : (State.resetWith p).slot c = Slot.idle := by
  by_cases hc : c < p.addrMap.length <;> simp [State.slot, State.resetWith, hc]

theorem resetWith_length (p : Params) : (State.resetWith p).slots.length = p.nCh := List.length_replicate ..

/-- Settles O56: no slot of the table just made holds a session, and each register is its parameter. -/
theorem resetValues : Obligations.ResetValues := by
  intro p s
  exact ⟨rfl, resetWith_length p, fun c => by rw [resetWith_slot]; rfl, rfl, rfl, rfl, rfl, rfl, rfl, rfl⟩

theorem inv_resetWith (p : Params) : (State.resetWith p).Inv :=
  inv_of_no_session (resetWith_length p) (fun c => by rw [resetWith_slot]; rfl) (by decide : 1 ≤ maxFilters)

/-- Settles O57: without a session the invariant asks nothing of a slot. -/
theorem resetInv : Obligations.ResetInv := ⟨inv_resetWith paramsT0, inv_resetWith⟩

end Sys2Proof.Machine
end

section
/-! PROOFS. The decoder after the encoder (30_encoding.md R122): what each group's decoder makes of the bits its encoder
writes, and the two obligations about them. -/

namespace Sys2Proof.Machine

/-! ### Nibbles and selectors (30_encoding.md R116, R117) -/

@[simp] theorem hiNibble_pciByte : ∀ hi lo : BitVec 4, hiNibble (pciByte hi lo) = hi := by decide

@[simp] theorem loNibble_pciByte : ∀ hi lo : BitVec 4, loNibble (pciByte hi lo) = lo := by decide

theorem selectorOf_pciByte (sel : BitVec 4) : selectorOf [pciByte 0 sel] = some sel := by
  simp [selectorOf]

theorem decode_opRequest (wo : WordOrder) (sel : BitVec 4) (a : Args) :
    decode wo (opRequest sel a) = .ok (decodeOp sel a) := by
  rw [decode, opRequest]
  dsimp only
  rw [selectorOf_pciByte]

theorem decodeOp_reserved (a : Args) : ∀ low : BitVec 2, decodeOp (3#2 ++ low) a = .opReserved12to15 low := by
  have hsel : ∀ low : BitVec 2, 12 ≤ (3#2 ++ low).toNat ∧ (3#2 ++ low).extractLsb' 0 2 = low := by decide
  intro low
  obtain ⟨hlow, hbits⟩ := hsel low
  unfold decodeOp
  split
  case h_13 => rw [hbits]
  all_goals omega

/-- A register request reads as an access with the operands it was made of. -/
theorem decode_regRequest (wo : WordOrder) (sel : BitVec 4) (acc : RegAccess) :
    ∃ a, decode wo (regRequest sel acc) = .ok (decodeReg sel a) ∧ accessOf a = acc := by
  have hdec (a : Args) : decode wo ⟨.reg, [pciByte 0 sel], a⟩ = .ok (decodeReg sel a) := by
    rw [decode]
    dsimp only
    rw [selectorOf_pciByte]
  cases acc with
  | read sysOk errno => exact ⟨_, hdec _, rfl⟩
  | write value sysOk errno => exact ⟨_, hdec _, rfl⟩

theorem decode_regReserved10to11 (wo : WordOrder) : ∀ low : BitVec 1,
    decode wo ⟨.reg, [pciByte 0 (5#3 ++ low)], {}⟩ = .ok (.regReserved10to11 low) := by
  cases wo <;> decide

theorem decode_regReserved12to15 (wo : WordOrder) : ∀ low : BitVec 2,
    decode wo ⟨.reg, [pciByte 0 (3#2 ++ low)], {}⟩ = .ok (.regReserved12to15 low) := by
  cases wo <;> decide

/-! ### Images (20_memory.md R60, 30_encoding.md R86) -/

section Flags

variable (eff rtr err : Bool) (lo : BitVec 29)

theorem getLsbD_wordWithFlags_low (j : Nat) (hj : j < 29) : (wordWithFlags eff rtr err lo).getLsbD j = lo.getLsbD j := by
  simp only [wordWithFlags, BitVec.getLsbD_append, hj, if_true]

theorem getLsbD_wordWithFlags_eff : (wordWithFlags eff rtr err lo).getLsbD 31 = eff := by
  simp only [wordWithFlags, BitVec.getLsbD_append, BitVec.getLsbD_ofBool]
  simp

theorem getLsbD_wordWithFlags_rtr : (wordWithFlags eff rtr err lo).getLsbD 30 = rtr := by
  simp only [wordWithFlags, BitVec.getLsbD_append, BitVec.getLsbD_ofBool]
  simp

theorem getLsbD_wordWithFlags_err : (wordWithFlags eff rtr err lo).getLsbD 29 = err := by
  simp only [wordWithFlags, BitVec.getLsbD_append, BitVec.getLsbD_ofBool]
  simp

theorem extract_wordWithFlags : (wordWithFlags eff rtr err lo).extractLsb' 0 29 = lo := by
  apply BitVec.eq_of_getLsbD_eq
  intro j hj
  rw [BitVec.getLsbD_extractLsb', Nat.zero_add, getLsbD_wordWithFlags_low _ _ _ _ _ hj]
  simp [hj]

end Flags

/-- The four bytes of a word, by name. -/
theorem w32_eq_four (wo : WordOrder) (w : Word) : ∃ b0 b1 b2 b3, w32 wo w = [b0, b1, b2, b3] := by
  cases wo <;> exact ⟨_, _, _, _, rfl⟩

/-- An image taken apart after it was put together. -/
theorem imageParts_w32 (wo : WordOrder) (w : Word) (len r5 r6 r7 : Byte) (payload : Bytes) (h : payload.length = maxData) :
    imageParts wo (w32 wo w ++ [len, r5, r6, r7] ++ payload) =
      some (w, ⟨w.extractLsb' 0 29, len, r5, r6, r7, payload⟩) := by
  obtain ⟨b0, b1, b2, b3, hbytes⟩ := w32_eq_four wo w
  have hword : unW32 wo [b0, b1, b2, b3] = w := by rw [← hbytes, unW32_w32]
  simp only [hbytes, List.cons_append, List.nil_append, imageParts, h, if_true, hword]

theorem imageParts_imageBytes (wo : WordOrder) (eff rtr err : Bool) (b : ImgBody) (hb : b.wellFormed = true) :
    imageParts wo (imageBytes wo eff rtr err b) = some (wordWithFlags eff rtr err b.word, b) := by
  rw [imageBytes, imageParts_w32 _ _ _ _ _ _ _ (of_decide_eq_true hb), extract_wordWithFlags]

theorem decode_imgRequest (wo : WordOrder) (eff rtr err : Bool) (b : ImgBody) (rx : RxArgs) (hb : b.wellFormed = true) :
    decode wo (imgRequest wo eff rtr err b rx) = .ok (decodeImg (wordWithFlags eff rtr err b.word) b rx) := by
  simp only [decode, imgRequest, imageParts_imageBytes wo eff rtr err b hb, rxArgsOf]

theorem decode_errRequest (wo : WordOrder) (eff rtr : Bool) (b : ImgBody) (rx : RxArgs) (hb : b.wellFormed = true) :
    decode wo (errRequest wo eff rtr b rx) = decodeErrFrm (wordWithFlags eff rtr true b.word) b rx := by
  simp only [decode, errRequest, imageParts_imageBytes wo eff rtr true b hb, rxArgsOf]

theorem decodeImg_wordWithFlags_error (eff rtr : Bool) (b : ImgBody) (rx : RxArgs) :
    decodeImg (wordWithFlags eff rtr true b.word) b rx = .frameError eff rtr b rx := by
  simp only [decodeImg, getLsbD_wordWithFlags_err, getLsbD_wordWithFlags_eff, getLsbD_wordWithFlags_rtr, if_true]

/-- Without the error flag the two other flags select the row (30_encoding.md R89). -/
theorem decodeImg_wordWithFlags_frame (eff rtr : Bool) (b : ImgBody) (rx : RxArgs) :
    decodeImg (wordWithFlags eff rtr false b.word) b rx =
      match eff, rtr with
      | false, false => .frameStdData b rx
      | true, false => .frameExtData b rx
      | false, true => .frameStdRemote b rx
      | true, true => .frameExtRemote b rx := by
  simp only [decodeImg, getLsbD_wordWithFlags_err, getLsbD_wordWithFlags_eff, getLsbD_wordWithFlags_rtr]
  cases eff <;> cases rtr <;> rfl

/-- The class bits of an error frame of a well-formed row: its own is set and those of the rows before it are clear. -/
theorem firstClassBit_iff (b : ImgBody) (k : Nat) :
    b.firstClassBit k = true ↔ b.word.getLsbD k = true ∧ ∀ j < k, b.word.getLsbD j = false := by
  simp [ImgBody.firstClassBit]

/-- The row the class bits select: the first whose bit is set (42_error_decoder.md R172; log entry 23). -/
theorem decodeErrFrm_wordWithFlags (eff rtr : Bool) (b : ImgBody) (rx : RxArgs) :
    decodeErrFrm (wordWithFlags eff rtr true b.word) b rx =
      if b.word.getLsbD 0 then .ok (.errClassTimeout eff rtr b rx)
      else if b.word.getLsbD 1 then .ok (.errClassLostArbitration eff rtr b rx)
      else if b.word.getLsbD 2 then .ok (.errClassControllerError eff rtr b rx)
      else if b.word.getLsbD 3 then .ok (.errClassProtocolViolation eff rtr b rx)
      else if b.word.getLsbD 4 then .ok (.errClassTransceiverStatus eff rtr b rx)
      else if b.word.getLsbD 5 then .ok (.errClassNoAck eff rtr b rx)
      else if b.word.getLsbD 6 then .ok (.errClassBusOff eff rtr b rx)
      else if b.word.getLsbD 7 then .ok (.errClassBusError eff rtr b rx)
      else if b.word.getLsbD 8 then .ok (.errClassRestarted eff rtr b rx)
      else .rejected .noErrorClass := by
  have hbit (j : Nat) (hj : j < 29) := getLsbD_wordWithFlags_low eff rtr true b.word j hj
  simp only [decodeErrFrm, getLsbD_wordWithFlags_err, getLsbD_wordWithFlags_eff, getLsbD_wordWithFlags_rtr,
    hbit 0 (by decide), hbit 1 (by decide), hbit 2 (by decide), hbit 3 (by decide), hbit 4 (by decide),
    hbit 5 (by decide), hbit 6 (by decide), hbit 7 (by decide), hbit 8 (by decide)]
  rfl

/-- An error-class row whose own class bit, number `k`, is the first that is set. -/
theorem decode_errRequest_first (wo : WordOrder) (eff rtr : Bool) {b : ImgBody} (rx : RxArgs) {k : Nat} {i : Instr}
    (hwf : (b.wellFormed && b.firstClassBit k) = true)
    (hrow : b.word.getLsbD k = true → (∀ j < k, b.word.getLsbD j = false) →
      decodeErrFrm (wordWithFlags eff rtr true b.word) b rx = .ok i) :
    decode wo (errRequest wo eff rtr b rx) = .ok i := by
  obtain ⟨hb, hbit⟩ := Bool.and_eq_true_iff.mp hwf
  obtain ⟨hset, hclear⟩ := (firstClassBit_iff b k).mp hbit
  rw [decode_errRequest wo eff rtr b rx hb]
  exact hrow hset hclear

/-! ### Transport frames (30_encoding.md R96) -/

section Npdu

variable (c : Nat) (rest : Bytes) (rx : RxArgs) (hfits : rest.length ≤ 7)

include hfits

theorem decodeNpdu_sf (dl : BitVec 4) : decodeNpdu c (pciByte 0 dl :: rest) rx = .ok (.npduSf c dl rest rx) := by
  have hlen : ¬ maxData < (pciByte 0 dl :: rest).length := Nat.not_lt.mpr (Nat.succ_le_succ hfits)
  unfold decodeNpdu
  rw [if_neg hlen]
  simp only [hiNibble_pciByte, loNibble_pciByte]
  rfl

theorem decodeNpdu_cf (sn : BitVec 4) : decodeNpdu c (pciByte 2 sn :: rest) rx = .ok (.npduCf c sn rest rx) := by
  have hlen : ¬ maxData < (pciByte 2 sn :: rest).length := Nat.not_lt.mpr (Nat.succ_le_succ hfits)
  unfold decodeNpdu
  rw [if_neg hlen]
  simp only [hiNibble_pciByte, loNibble_pciByte]
  rfl

theorem decodeNpdu_fc (fs : BitVec 4) :
    decodeNpdu c (pciByte 3 fs :: rest) rx = .ok (decodeFlowControl c fs rest rx) := by
  have hlen : ¬ maxData < (pciByte 3 fs :: rest).length := Nat.not_lt.mpr (Nat.succ_le_succ hfits)
  unfold decodeNpdu
  rw [if_neg hlen]
  simp only [hiNibble_pciByte, loNibble_pciByte]
  rfl

/-- A first byte of none of the four known types (30_encoding.md R96). -/
theorem decodeNpdu_unknown (b : Byte) (htype : 4 ≤ (hiNibble b).toNat) :
    decodeNpdu c (b :: rest) rx =
      if b.getLsbD 7 then .ok (.npduUnknown8toF c (b.extractLsb' 0 7) rest rx)
      else .ok (.npduUnknown4to7 c (b.extractLsb' 0 6) rest rx) := by
  have hlen : ¬ maxData < (b :: rest).length := Nat.not_lt.mpr (Nat.succ_le_succ hfits)
  unfold decodeNpdu
  rw [if_neg hlen]
  dsimp only
  split
  case h_5 => rfl
  all_goals omega

end Npdu

/-- The two bytes of a FirstFrame: all twelve bits of the length clear, or not (30_encoding.md R102). -/
theorem decodeNpdu_ff (c : Nat) (hi : BitVec 4) (b1 : Byte) (rest : Bytes) (rx : RxArgs) (hfits : rest.length ≤ 6) :
    decodeNpdu c (pciByte 1 hi :: b1 :: rest) rx =
      if hi ++ b1 = 0 then .ok (.npduFf32 c rest rx) else .ok (.npduFf12 c (hi ++ b1) rest rx) := by
  have hlen : ¬ maxData < (pciByte 1 hi :: b1 :: rest).length :=
    Nat.not_lt.mpr (Nat.succ_le_succ (Nat.succ_le_succ hfits))
  unfold decodeNpdu
  rw [if_neg hlen]
  simp only [hiNibble_pciByte, loNibble_pciByte]
  rfl

/-- The reserved flow statuses 4 to 7 and 8 to F (30_encoding.md R108). -/
theorem decodeFlowControl_reserved4to7 (c : Nat) (low : BitVec 2) (rest : Bytes) (rx : RxArgs) :
    decodeFlowControl c (1#2 ++ low) rest rx = .npduFcReserved4to7 c low rest rx := by
  have hfs : ∀ low : BitVec 2, 4 ≤ (1#2 ++ low).toNat ∧ (1#2 ++ low).getLsbD 3 = false ∧
      (1#2 ++ low).extractLsb' 0 2 = low := by decide
  obtain ⟨hmin, hbit, hlow⟩ := hfs low
  unfold decodeFlowControl
  split
  case h_5 => rw [hbit, hlow, if_neg Bool.false_ne_true]
  all_goals omega

theorem decodeFlowControl_reserved8toF (c : Nat) (low : BitVec 3) (rest : Bytes) (rx : RxArgs) :
    decodeFlowControl c (1#1 ++ low) rest rx = .npduFcReserved8toF c low rest rx := by
  have hfs : ∀ low : BitVec 3, 4 ≤ (1#1 ++ low).toNat ∧ (1#1 ++ low).getLsbD 3 = true ∧
      (1#1 ++ low).extractLsb' 0 3 = low := by decide
  obtain ⟨hmin, hbit, hlow⟩ := hfs low
  unfold decodeFlowControl
  split
  case h_5 => rw [hbit, hlow, if_pos rfl]
  all_goals omega

theorem append_extract_twelve (len : BitVec 12) : len.extractLsb' 8 4 ++ len.extractLsb' 0 8 = len := by
  apply BitVec.eq_of_getLsbD_eq
  intro j hj
  simp only [BitVec.getLsbD_append, BitVec.getLsbD_extractLsb']
  grind

theorem rest_le_of_restFits {pci : Nat} {rest : Bytes} (h : restFits pci rest = true) : pci + rest.length ≤ 8 :=
  of_decide_eq_true h

/-! ### Filter pairs (20_memory.md R71) -/

theorem decode_fltRequest (wo : WordOrder) (p : RawFilter) :
    decode wo (fltRequest wo p) =
      if p.id.getLsbD 31 then .ok (.fltIdExtended p)
      else if p.id.getLsbD 29 then .ok (.fltIdInvert p)
      else if p.mask.getLsbD 31 && p.mask.getLsbD 30 then .ok (.fltMaskTyped p)
      else .rejected .noFilterRow := by
  have hlen : ¬ (w32 wo p.id ++ w32 wo p.mask).length ≠ 8 := by simp
  have htake : (w32 wo p.id ++ w32 wo p.mask).take 4 = w32 wo p.id := List.take_left' (length_w32 wo _)
  have hdrop : (w32 wo p.id ++ w32 wo p.mask).drop 4 = w32 wo p.mask := List.drop_left' (length_w32 wo _)
  simp only [decode, fltRequest, decodeFltEnt, if_neg hlen, htake, hdrop, unW32_w32]

/-! ### The obligations -/

/-- Settles O59: one case for each row, each by what its group's decoder makes of the bits written. -/
theorem decodeEncode : Obligations.DecodeEncode := by
  intro wo i hwf
  cases i with
  | opReserved12to15 low => exact (decode_opRequest wo _ _).trans (congrArg Decoded.ok (decodeOp_reserved _ low))
  | encode id extended remoteRequest payload => exact decode_opRequest wo 0 _
  | decode bytes => exact decode_opRequest wo 1 _
  | filterApply filters sysOk errno => exact decode_opRequest wo 2 _
  | filterRead sysOk errno => exact decode_opRequest wo 3 _
  | errDecode f => exact decode_opRequest wo 4 _
  | bind name res => exact decode_opRequest wo 5 _
  | close => exact decode_opRequest wo 6 _
  | cfgWrite reg value sysOk errno => exact decode_opRequest wo 7 _
  | cfgRead reg sysOk errno => exact decode_opRequest wo 8 _
  | rxRaw bytes rx => exact decode_opRequest wo 9 _
  | send payload peer rx => exact decode_opRequest wo 10 _
  | tick now txo => exact decode_opRequest wo 11 _
  | regReserved10to11 low => exact decode_regReserved10to11 wo low
  | regReserved12to15 low => exact decode_regReserved12to15 wo low
  | regRxCapacity acc | regNBs acc | regNCr acc | regWftMax acc | regLocalStmin acc | regPadEn acc | regPadByte acc
  | regErrMask acc | regLoopback acc | regRecvOwn acc =>
    obtain ⟨a, hdec, rfl⟩ := decode_regRequest wo _ acc
    exact hdec
  | frameStdData b rx | frameExtData b rx | frameStdRemote b rx | frameExtRemote b rx =>
    exact (decode_imgRequest wo _ _ _ b rx hwf).trans (congrArg Decoded.ok (decodeImg_wordWithFlags_frame _ _ b rx))
  | frameError eff rtr b rx =>
    exact (decode_imgRequest wo _ _ _ b rx hwf).trans (congrArg Decoded.ok (decodeImg_wordWithFlags_error _ _ b rx))
  | errClassTimeout eff rtr b rx | errClassLostArbitration eff rtr b rx | errClassControllerError eff rtr b rx
  | errClassProtocolViolation eff rtr b rx | errClassTransceiverStatus eff rtr b rx | errClassNoAck eff rtr b rx
  | errClassBusOff eff rtr b rx | errClassBusError eff rtr b rx | errClassRestarted eff rtr b rx =>
    refine decode_errRequest_first wo eff rtr rx hwf fun hset hclear => ?_
    rw [decodeErrFrm_wordWithFlags]
    simp only [hset, hclear, Nat.reduceLT, Bool.false_eq_true, if_true, if_false]
  | npduSf c dl rest rx => exact decodeNpdu_sf c rest rx (by have := rest_le_of_restFits hwf; omega) dl
  | npduFf32 c rest rx => exact decodeNpdu_ff c 0 0 rest rx (by have := rest_le_of_restFits hwf; omega)
  | npduFf12 c len rest rx =>
    obtain ⟨hfits, hlen⟩ := Bool.and_eq_true_iff.mp hwf
    have hne : len ≠ 0 := of_decide_eq_true hlen
    have hrest := rest_le_of_restFits hfits
    refine (decodeNpdu_ff c _ _ rest rx (by omega)).trans ?_
    rw [append_extract_twelve, if_neg hne]
  | npduCf c sn rest rx => exact decodeNpdu_cf c rest rx (by have := rest_le_of_restFits hwf; omega) sn
  | npduFcCts c rest rx => exact decodeNpdu_fc c rest rx (by have := rest_le_of_restFits hwf; omega) 0
  | npduFcWait c rest rx => exact decodeNpdu_fc c rest rx (by have := rest_le_of_restFits hwf; omega) 1
  | npduFcOverflow c rest rx => exact decodeNpdu_fc c rest rx (by have := rest_le_of_restFits hwf; omega) 2
  | npduFcReserved3 c rest rx => exact decodeNpdu_fc c rest rx (by have := rest_le_of_restFits hwf; omega) 3
  | npduFcReserved4to7 c low rest rx =>
    exact (decodeNpdu_fc c rest rx (by have := rest_le_of_restFits hwf; omega) _).trans
      (congrArg Decoded.ok (decodeFlowControl_reserved4to7 c low rest rx))
  | npduFcReserved8toF c low rest rx =>
    exact (decodeNpdu_fc c rest rx (by have := rest_le_of_restFits hwf; omega) _).trans
      (congrArg Decoded.ok (decodeFlowControl_reserved8toF c low rest rx))
  | npduUnknown4to7 c low rest rx =>
    have hbyte : ∀ low : BitVec 6, 4 ≤ (hiNibble (1#2 ++ low)).toNat ∧ (1#2 ++ low).getLsbD 7 = false ∧
        (1#2 ++ low).extractLsb' 0 6 = low := by decide
    obtain ⟨htype, hbit, hlow⟩ := hbyte low
    refine (decodeNpdu_unknown c rest rx (by have := rest_le_of_restFits hwf; omega) _ htype).trans ?_
    rw [hbit, hlow, if_neg Bool.false_ne_true]
  | npduUnknown8toF c low rest rx =>
    have hbyte : ∀ low : BitVec 7, 4 ≤ (hiNibble (1#1 ++ low)).toNat ∧ (1#1 ++ low).getLsbD 7 = true ∧
        (1#1 ++ low).extractLsb' 0 7 = low := by decide
    obtain ⟨htype, hbit, hlow⟩ := hbyte low
    refine (decodeNpdu_unknown c rest rx (by have := rest_le_of_restFits hwf; omega) _ htype).trans ?_
    rw [hbit, hlow, if_pos rfl]
  | fltIdExtended p =>
    have hext : p.id.getLsbD 31 = true := hwf
    exact (decode_fltRequest wo p).trans (if_pos hext)
  | fltIdInvert p =>
    obtain ⟨hext, hinv⟩ : p.id.getLsbD 31 = false ∧ p.id.getLsbD 29 = true := by simpa [Instr.wellFormed] using hwf
    refine (decode_fltRequest wo p).trans ?_
    simp only [hext, hinv, Bool.false_eq_true, if_true, if_false]
  | fltMaskTyped p =>
    obtain ⟨⟨⟨hext, hinv⟩, hm31⟩, hm30⟩ : ((p.id.getLsbD 31 = false ∧ p.id.getLsbD 29 = false) ∧
      p.mask.getLsbD 31 = true) ∧ p.mask.getLsbD 30 = true := by simpa [Instr.wellFormed] using hwf
    refine (decode_fltRequest wo p).trans ?_
    simp only [hext, hinv, hm31, hm30, Bool.and_self, Bool.false_eq_true, if_true, if_false]

/-- Settles O55: each word is read by its group's decoder. -/
theorem wordsDecode : Obligations.WordsDecode := by
  refine ⟨rfl, rfl, rfl, rfl, rfl, rfl⟩

end Sys2Proof.Machine
end

section
/-! PROOFS. What instructions leave alone (60_exceptions.md R314, R329, 43_port.md R190, 10_state.md R27): read off the
states of `Effect`, once it is known which slots the shared operations write. -/

namespace Sys2Proof.Machine

/-! ### Operations that write one slot, or none -/

theorem onlySlot_offer (c : Nat) (image : Bytes) {sent : State → State} (hsent : ∀ s, OnlySlot c s (sent s)) (s : State) :
    OnlySlot c s (offer c image sent s) := by
  have htx := onlySlot_tx c image s
  rw [offer]
  split <;> rename_i heq <;> rw [heq] at htx
  · exact htx.trans (hsent _)
  · exact htx.trans (onlySlot_finish c _ _)
  · exact htx.trans (onlySlot_finish c _ _)

theorem onlySlot_startSending (c : Nat) (payload : Bytes) (now : Nat) (s : State) :
    OnlySlot c s (startSending c payload now s) :=
  (onlySlot_setSlot c ((s.slot c).opened (s.channel c) payload) s).trans
    (onlySlot_offer c _ (onlySlot_arm c .bs now) _)

theorem onlySlot_handlePdu (c now : Nat) (n : Npdu) (s : State) : OnlySlot c s (handlePdu c now n s) := by
  cases n with
  | invalid => exact .refl c s
  | sf data => exact onlySlot_rxSF c data s
  | ff total data => exact onlySlot_rxFF c total data now s
  | cf sn data => exact onlySlot_rxCF c sn data now s
  | fc fs bs st => exact onlySlot_rxFC c fs bs st now s
  | unknownType t => exact onlySlot_report c s

/-- SEND after its checks writes the slot of its channel, after the expiry pass. -/
theorem onlySlot_sendAccepted (c : Nat) (payload : Bytes) (peer : PeerAddr) (now : BitVec 64) (txo : List TxOutcome)
    (s : State) : OnlySlot c (s.served now txo) (sendAccepted c payload peer now.toNat (startOp txo s)) := by
  by_cases hshort : payload.length ≤ (s.channel c).sfMax
  · rw [sendAccepted_single hshort]
    exact (onlySlot_tx c _ _).trans (onlySlot_emit c _ _)
  · cases hvalid : ((s.served now txo).slot c).valid with
    | true =>
      rw [sendAccepted_busy (Nat.not_le.mp hshort) hvalid]
      exact onlySlot_emit c _ _
    | false =>
      rw [sendAccepted_start (Nat.not_le.mp hshort) hvalid]
      exact onlySlot_startSending c _ _ _

theorem onlySlot_closeSlot (c : Nat) (s : State) : OnlySlot c s (closeSlot c s) := by
  rw [closeSlot]
  split
  · exact onlySlot_finish c _ s
  · exact .refl c s

theorem onlySlots_closeSessions (s : State) : OnlySlots s (closeSessions s) :=
  onlySlots_foldl (fun s c => closeSlot c s) onlySlot_closeSlot _ s

/-- The handler of an inbound unit raises FormatError and does nothing else, or raises nothing. -/
theorem unitEffect_cases {now : Nat} {e u : State} (hu : UnitEffect now e u) :
    u = raise .formatError e ∨ OnlySlots e u := by
  cases hu with
  | malformed => exact .inl rfl
  | ignored => exact .inr (.refl e)
  | reported r => exact .inr ⟨rfl, rfl, rfl, rfl, rfl, rfl⟩
  | handled c n hc hn => exact .inr (onlySlot_handlePdu c now n e).onlySlots

theorem unitEffect_params {now : Nat} {e u : State} (hu : UnitEffect now e u) :
    u.params = e.params ∧ u.mode = e.mode ∧ u.cfg = e.cfg ∧ u.pending = e.pending := by
  rcases unitEffect_cases hu with rfl | h
  · exact ⟨rfl, rfl, rfl, rfl⟩
  · exact ⟨h.params, h.mode, h.cfg, h.pending⟩

/-- What a traffic operation keeps: it writes slots, actions and the result. -/
theorem effect_traffic {s u : State} (now : BitVec 64) (txo : List TxOutcome)
    (hu : u.params = (s.served now txo).params ∧ u.mode = (s.served now txo).mode ∧ u.cfg = (s.served now txo).cfg ∧
      u.pending = (s.served now txo).pending) :
    u.params = s.params ∧ u.mode = s.mode ∧ u.cfg = s.cfg ∧ u.pending = s.pending := by
  obtain ⟨hparams, hmode, hcfg, hpending⟩ := hu
  exact ⟨hparams.trans (served_params ..), hmode.trans (served_mode ..), hcfg.trans (served_cfg ..),
    hpending.trans (served_pending ..)⟩

theorem sendAccepted_keeps {c : Nat} {payload : Bytes} {peer : PeerAddr} {now : BitVec 64} {txo : List TxOutcome}
    {s u : State} (hu : u = sendAccepted c payload peer now.toNat (startOp txo s)) :
    u.params = s.params ∧ u.mode = s.mode ∧ u.cfg = s.cfg ∧ u.pending = s.pending := by
  have h := onlySlot_sendAccepted c payload peer now txo s
  rw [← hu] at h
  exact effect_traffic now txo ⟨h.params, h.mode, h.cfg, h.pending⟩

/-! ### The gate (43_port.md R190) -/

theorem runOp_trafficGate_closed (txo : List TxOutcome) (errno : Nat) (body : State → State) {s : State}
    (hmode : s.mode = .closed) :
    runOp txo (trafficGate errno body) s = .next (s.ended [] (.raised .closedError)) := by
  rw [runOp, trafficGate, startOp_mode, hmode]
  rfl

theorem runOp_trafficGate_unbound (txo : List TxOutcome) (errno : Nat) (body : State → State) {s : State}
    (hmode : s.mode = .unbound) :
    runOp txo (trafficGate errno body) s = .next (s.ended [] (.raised (.systemCallError errno))) := by
  rw [runOp, trafficGate, startOp_mode, hmode]
  rfl

/-- An inbound unit and SEND stand behind the gate of the traffic operations. -/
theorem exec_traffic {i : Instr} {rx : RxArgs}
    (hi : inboundArgs i = some rx ∨ ∃ payload peer, i = .send payload peer rx) :
    ∃ body, ∀ s, exec i s = runOp rx.txo (trafficGate rx.errno body) s := by
  rcases hi with hi | ⟨payload, peer, rfl⟩
  · obtain ⟨body, hexec, -⟩ := exec_inbound hi
    exact ⟨_, hexec⟩
  · exact ⟨_, fun _ => rfl⟩

theorem accessReg_closed (r : Reg) (acc : RegAccess) {s : State} (hmode : s.mode = .closed) :
    accessReg r acc s = .next (s.ended [] (.raised .closedError)) := by
  cases acc with
  | read sysOk errno => exact (runOp_readReg r sysOk errno s).trans (by rw [if_pos hmode])
  | write v sysOk errno => exact (runOp_writeReg r v sysOk errno s).trans (by rw [if_pos hmode])

theorem regOfSelector_of_lt {reg : BitVec 4} (h : reg.toNat < 10) : ∃ r, regOfSelector reg = some r :=
  Option.ne_none_iff_exists'.mp fun hnone => Nat.not_le.mpr h ((regOfSelector_eq_none_iff reg).mp hnone)

/-- What a closed port does with a port operation: ClosedError, and nothing else. -/
theorem exec_closed {i : Instr} {s : State} (hport : portOp i = true) (hmode : s.mode = .closed) :
    exec i s = .next (s.ended [] (.raised .closedError)) := by
  cases hreg : regRow i with
  | some r =>
    obtain ⟨r, acc⟩ := r
    exact (exec_regRow s hreg).trans (accessReg_closed r acc hmode)
  | none =>
    cases hin : inboundArgs i with
    | some rx =>
      obtain ⟨body, hexec⟩ := exec_traffic (.inl hin)
      exact (hexec s).trans (runOp_trafficGate_closed rx.txo rx.errno body hmode)
    | none =>
      cases i with
      | filterApply fs sysOk errno => exact (exec_filterApply fs sysOk errno s).trans (by rw [if_pos hmode])
      | filterRead sysOk errno => exact (exec_filterRead sysOk errno s).trans (by rw [if_pos hmode])
      | bind name res => exact (bindResult name res s).trans (by rw [if_pos hmode])
      | close => exact (exec_close s).trans (by rw [if_pos hmode])
      | send payload peer rx => exact runOp_trafficGate_closed rx.txo rx.errno _ hmode
      | cfgWrite reg v sysOk errno =>
        obtain ⟨r, hr⟩ := regOfSelector_of_lt (of_decide_eq_true hport)
        exact (exec_cfgWrite reg r v sysOk errno s hr).trans (accessReg_closed r (.write v sysOk errno) hmode)
      | cfgRead reg sysOk errno =>
        obtain ⟨r, hr⟩ := regOfSelector_of_lt (of_decide_eq_true hport)
        exact (exec_cfgRead reg r sysOk errno s hr).trans (accessReg_closed r (.read sysOk errno) hmode)
      | _ =>
        rw [portOp, hreg, hin] at hport
        · exact nomatch hport
        all_goals exact nofun

/-- Settles O19: the gate is the first thing a port operation meets. -/
theorem modeGate : Obligations.ModeGate := by
  intro i s
  refine ⟨exec_closed, fun rx payload peer hi hmode => ?_⟩
  obtain ⟨body, hexec⟩ := exec_traffic (hi.imp_right fun h => ⟨payload, peer, h⟩)
  exact (hexec s).trans (runOp_trafficGate_unbound rx.txo rx.errno body hmode)

/-! ### What each instruction writes (60_exceptions.md R314, R329) -/

/-- Settles O20: of the states an instruction can leave two have another mode. -/
theorem modeChanges : Obligations.ModeChanges := by
  intro i s t h
  cases exec_effect h with
  | quiet r => exact .inl rfl
  | bound name hi hmode => exact .inr (.inl ⟨hmode, rfl, name, hi⟩)
  | closed hi hmode => exact .inr (.inr ⟨hmode, rfl, hi⟩)
  | filters fs sysOk errno v hi hlen => exact .inl rfl
  | register r v hi => exact .inl rfl
  | ticked now txo hi => exact .inl (served_mode now txo s)
  | sent payload peer rx c hi hmode hchan hlen hpeer =>
    obtain ⟨-, hkept, -⟩ := sendAccepted_keeps (s := s) rfl
    exact .inl hkept
  | unit rx u hi hmode hu =>
    obtain ⟨-, hkept, -⟩ := effect_traffic rx.now rx.txo (unitEffect_params hu)
    exact .inl hkept

/-- Settles O21: of the states an instruction can leave two have another configuration. -/
theorem configChanges : Obligations.ConfigChanges := by
  intro i s t h
  cases exec_effect h with
  | quiet r => exact ⟨rfl, rfl, rfl, .inl rfl⟩
  | bound name hi hmode => exact ⟨rfl, rfl, rfl, .inl rfl⟩
  | closed hi hmode =>
    have hkept := onlySlots_closeSessions (startOp [] s)
    exact ⟨hkept.params, hkept.pending, rfl, .inl hkept.cfg⟩
  | filters fs sysOk errno v hi hlen => exact ⟨rfl, rfl, rfl, .inr (.inr (.inr ⟨fs, sysOk, errno, hi⟩))⟩
  | register r v hi => exact ⟨rfl, rfl, rfl, .inr (hi.imp_right .inl)⟩
  | ticked now txo hi => exact ⟨served_params now txo s, served_pending now txo s, rfl, .inl (served_cfg now txo s)⟩
  | sent payload peer rx c hi hmode hchan hlen hpeer =>
    obtain ⟨hparams, -, hcfg, hpending⟩ := sendAccepted_keeps (s := s) rfl
    exact ⟨hparams, hpending, rfl, .inl hcfg⟩
  | unit rx u hi hmode hu =>
    obtain ⟨hparams, -, hcfg, hpending⟩ := effect_traffic rx.now rx.txo (unitEffect_params hu)
    exact ⟨hparams, hpending, rfl, .inl hcfg⟩

/-- Settles O22: of the states an instruction can leave four have other slots, and each is left by one of the four
excepted kinds. -/
theorem untimedLeaveSessions : Obligations.UntimedLeaveSessions := by
  intro i s t h hin hclose hsend htick
  cases exec_effect h with
  | quiet r => exact ⟨rfl, rfl⟩
  | bound name hi hmode => exact ⟨rfl, rfl⟩
  | filters fs sysOk errno v hi hlen => exact ⟨rfl, rfl⟩
  | register r v hi => exact ⟨rfl, rfl⟩
  | closed hi hmode => exact absurd hi hclose
  | ticked now txo hi => exact absurd hi (htick now txo)
  | sent payload peer rx c hi hmode hchan hlen hpeer => exact absurd hi (hsend payload peer rx)
  | unit rx u hi hmode hu =>
    rw [hi] at hin
    exact nomatch hin

/-- Settles O23: an error is raised before anything is written, or by an inbound unit after the expiry pass. -/
theorem raisedErrorLeaves : Obligations.RaisedErrorLeaves := by
  intro i s t k h hraised
  cases exec_effect h with
  | quiet r => exact ⟨rfl, rfl, .inl ⟨rfl, rfl⟩⟩
  | bound name hi hmode => exact nomatch hraised
  | closed hi hmode => exact nomatch (onlySlots_closeSessions (startOp [] s)).result.symm.trans hraised
  | filters fs sysOk errno v hi hlen => exact nomatch hraised
  | register r v hi => exact nomatch hraised
  | ticked now txo hi => exact nomatch hraised
  | sent payload peer rx c hi hmode hchan hlen hpeer =>
    have hres := (onlySlot_sendAccepted c payload peer rx.now rx.txo s).result.trans (served_result rx.now rx.txo s)
    exact nomatch hres.symm.trans hraised
  | unit rx u hi hmode hu =>
    rcases unitEffect_cases hu with rfl | hkept
    · cases hraised
      exact ⟨served_mode .., served_cfg .., .inr ⟨rfl, rx, hi, rfl, rfl⟩⟩
    · exact nomatch (hkept.result.trans (served_result rx.now rx.txo s)).symm.trans hraised

/-! ### The expiry pass and slots that have not expired (46_tp_timers.md R293) -/

/-- The pass leaves a slot that has not expired as it is, whichever channels have their turn. -/
theorem slot_foldl_expireSlot {now d : Nat} (cs : List Nat) {s : State} (hexp : (s.slot d).expired now = false) :
    (cs.foldl (fun s c => expireSlot now c s) s).slot d = s.slot d := by
  induction cs generalizing s with
  | nil => rfl
  | cons c cs ih =>
    have hturn : (expireSlot now c s).slot d = s.slot d := by
      by_cases hdc : d = c
      · subst hdc
        rw [expireSlot_idle now d s hexp]
      · exact (onlySlot_expireSlot now c s).slot d hdc
    rw [List.foldl_cons, ih (by rw [hturn]; exact hexp), hturn]

theorem slot_served_of_not_expired {now : BitVec 64} {txo : List TxOutcome} {s : State} {d : Nat}
    (hexp : (s.slot d).expired now.toNat = false) : (s.served now txo).slot d = s.slot d :=
  slot_foldl_expireSlot (s := startOp txo s) _ hexp

/-- A pass over channels none of which has expired does nothing. -/
theorem foldl_expireSlot_of_none {now : Nat} (cs : List Nat) {s : State}
    (hexp : ∀ c ∈ cs, (s.slot c).expired now = false) : cs.foldl (fun s c => expireSlot now c s) s = s := by
  induction cs with
  | nil => rfl
  | cons c cs ih =>
    rw [List.foldl_cons, expireSlot_idle now c s (hexp c List.mem_cons_self)]
    exact ih fun d hd => hexp d (List.mem_cons_of_mem c hd)

theorem served_of_none {now : BitVec 64} (txo : List TxOutcome) {s : State} (hexp : s.NoneExpired now) :
    s.served now txo = startOp txo s :=
  foldl_expireSlot_of_none (s := startOp txo s) _ fun c hc => hexp c (List.mem_range.mp hc)

/-- When one slot alone has expired, the pass is its turn. -/
theorem served_of_one {now : BitVec 64} (txo : List TxOutcome) {s : State} {c : Nat} (hc : c < s.params.nCh)
    (hexp : ∀ d, d ≠ c → (s.slot d).expired now.toNat = false) :
    s.served now txo = expireSlot now.toNat c (startOp txo s) := by
  obtain ⟨before, after, hsplit⟩ := List.append_of_mem (List.mem_range.mpr hc)
  have hnodup : (before ++ c :: after).Nodup := hsplit ▸ List.nodup_range
  have hother : ∀ d ∈ before ++ after, d ≠ c := by
    rintro d hd rfl
    exact (List.nodup_cons.mp (List.nodup_middle.mp hnodup)).1 hd
  have hbefore : ∀ d ∈ before, ((startOp txo s).slot d).expired now.toNat = false :=
    fun d hd => hexp d (hother d (List.mem_append_left _ hd))
  have hafter : ∀ d ∈ after, ((expireSlot now.toNat c (startOp txo s)).slot d).expired now.toNat = false := by
    intro d hd
    have hdc := hother d (List.mem_append_right _ hd)
    rw [(onlySlot_expireSlot now.toNat c (startOp txo s)).slot d hdc]
    exact hexp d hdc
  rw [State.served, expire, startOp_params, hsplit, List.foldl_append, foldl_expireSlot_of_none _ hbefore,
    List.foldl_cons, foldl_expireSlot_of_none _ hafter]

/-! ### TICK (46_tp_timers.md R294, R304) -/

/-- Settles O24: a pass in which no slot has its turn. -/
theorem tickQuiet : Obligations.TickQuiet := by
  intro now txo s hexp
  rw [exec_tick, served_of_none txo hexp]
  rfl

/-- Settles O25: the pass raises nothing, and each of its turns keeps to its own slot. -/
theorem tickOnlyExpired : Obligations.TickOnlyExpired := by
  intro now txo s
  exact ⟨_, exec_tick now txo s, rfl, served_length now txo s, fun c hexp => slot_served_of_not_expired hexp⟩

/-- A turn needs the invariant for an St timer alone. -/
theorem expireSlot_eq_afterTurn_of_timeout {now c : Nat} {s : State}
    (htimer : (s.slot c).expired now = true → (s.slot c).timer = .bs ∨ (s.slot c).timer = .cr) :
    expireSlot now c s = s.afterTurn now c := by
  cases hexp : (s.slot c).expired now with
  | false =>
    rw [expireSlot_idle now c s hexp]
    simp [State.afterTurn, firedWith_of_not_expired _ hexp, State.sendsAt, hexp, set_slot_self]
  | true =>
    rw [expireSlot, if_pos hexp]
    rcases htimer hexp with h | h <;>
      simp [State.afterTurn, State.firedWith, State.sendsAt, hexp, h, abort_eq_finish, finish_spec]

theorem foldl_expireSlot_of_timeouts (s : State) (now n : Nat)
    (htimer : ∀ c, (s.slot c).expired now = true → (s.slot c).timer = .bs ∨ (s.slot c).timer = .cr) :
    (List.range n).foldl (fun s c => expireSlot now c s) s = s.firedBelow now n := by
  induction n with
  | zero => exact (firedBelow_zero s now).symm
  | succ n ih =>
    have hslot : ((s.firedBelow now n).slot n).expired now = true →
        ((s.firedBelow now n).slot n).timer = .bs ∨ ((s.firedBelow now n).slot n).timer = .cr := by
      rw [slot_firedBelow]
      exact htimer n
    rw [List.range_succ, List.foldl_append, ih, List.foldl_cons, List.foldl_nil,
      expireSlot_eq_afterTurn_of_timeout hslot, afterTurn_firedBelow]

/-- What a slot whose timer is Bs or Cr does in the pass. -/
theorem fired_of_timeout {now : Nat} {s : State} (txo : List TxOutcome) {c : Nat}
    (htimer : (s.slot c).expired now = true → (s.slot c).timer = .bs ∨ (s.slot c).timer = .cr) :
    s.fired now txo c =
      if (s.slot c).expired now then
        ([s.delivery c (if (s.slot c).timer = .bs then .timeoutBs else .timeoutCr)], (s.slot c).freed)
      else ([], s.slot c) := by
  rw [fired_eq_firedWith]
  cases hexp : (s.slot c).expired now with
  | false => exact firedWith_of_not_expired _ hexp
  | true =>
    unfold State.firedWith
    rw [if_pos hexp]
    rcases htimer hexp with h | h <;> simp [h]

/-- Settles O26: the pass part of the way, at its end. -/
theorem tickTimeouts : Obligations.TickTimeouts := by
  intro now txo s hlen htimer
  have hpass : s.served now txo = (startOp txo s).firedBelow now.toNat s.params.nCh :=
    foldl_expireSlot_of_timeouts (startOp txo s) now.toNat s.params.nCh htimer
  have hfired (c : Nat) := fired_of_timeout (s := startOp txo s) txo (htimer c)
  have hactions : ((List.range s.params.nCh).flatMap fun c => ((startOp txo s).fired now.toNat txo c).1) =
      (List.range s.params.nCh).filterMap fun c =>
        if (s.slot c).expired now.toNat then
          some (s.delivery c (if (s.slot c).timer = .bs then .timeoutBs else .timeoutCr))
        else none := by
    rw [List.filterMap_eq_flatMap_toList]
    refine List.flatMap_congr fun c _ => ?_
    rw [hfired]
    change (if (s.slot c).expired now.toNat then _ else _ : List Action × Slot).1 = _
    split <;> rfl
  have hslots : (s.slots.mapIdx fun c sl =>
        if c < s.params.nCh then ((startOp txo s).fired now.toNat txo c).2 else sl) =
      s.slots.map fun sl => if sl.expired now.toNat then sl.freed else sl := by
    apply List.ext_getElem
    · simp
    · intro c hc _
      have hlt : c < s.slots.length := by simpa using hc
      have hslot : (startOp txo s).slot c = s.slots[c] := by simp [State.slot, hlt]
      rw [List.getElem_mapIdx, if_pos (hlen ▸ hlt), List.getElem_map, hfired, hslot]
      split <;> rfl
  rw [exec_tick, hpass]
  simp only [State.andThen, State.ended, State.firedBelow, startOp_txo, startOp_slots, startOp_actions, hslots,
    hactions, List.nil_append, List.append_nil]
  rfl

/-! ### An operation on one channel (10_state.md R27) -/

/-- Settles O50: after the expiry pass an operation on a channel writes no other slot. -/
theorem otherSlots : Obligations.OtherSlots := by
  intro i c rx s t h hi d hdc hexp
  have hserved : (s.served rx.now rx.txo).slot d = s.slot d := slot_served_of_not_expired hexp
  rcases hi with hrow | ⟨payload, peer, rfl, hchan⟩
  · rw [exec_npduRow s hrow, inboundPdu, inbound_spec] at h
    cases h
    split_ifs
    · rfl
    · rfl
    · exact hserved
    · exact ((onlySlot_handlePdu c rx.now.toNat _ _).slot d hdc).trans hserved
    · exact hserved
  · cases exec_effect h with
    | quiet r => rfl
    | sent payload' peer' rx' c' hi hmode hchan' hlen hpeer =>
      cases hi
      obtain rfl : c = c' := Option.some.inj (hchan.symm.trans hchan')
      exact ((onlySlot_sendAccepted c payload peer rx.now rx.txo s).slot d hdc).trans hserved
    | register r v hi => simp [regRow] at hi
    | unit rx' u hi hmode hu => exact nomatch hi
    | bound name hi | closed hi | filters fs sysOk errno v hi | ticked now txo hi => exact nomatch hi

end Sys2Proof.Machine
end

section
/-! PROOFS. Registers, filters and images: the legal values, the reads, the reserved selectors (43_port.md section 4), what
FilterDecode makes of a pair (41_filter_set.md R161, R162), and Pack after Unpack (40_frame_codec.md R150). -/

namespace Sys2Proof.Machine

/-! ### Legal values (10_state.md R22, R23) -/

/-- Joining the class values of a table to a word, bit by bit. -/
theorem getLsbD_foldl_or (cls : List (ErrorClass × BitVec 29)) (acc : Word) (j : Nat) :
    (cls.foldl (fun acc k => acc ||| k.2.setWidth 32) acc).getLsbD j = true ↔
      acc.getLsbD j = true ∨ ∃ k w, (k, w) ∈ cls ∧ w.getLsbD j = true := by
  induction cls generalizing acc with
  | nil => simp
  | cons k cls ih =>
    have hwide : (k.2.setWidth 32 : Word).getLsbD j = k.2.getLsbD j := by
      have hhigh : 29 ≤ j → k.2.getLsbD j = false := BitVec.getLsbD_of_ge k.2 j
      rw [BitVec.getLsbD_setWidth]
      grind
    obtain ⟨name, w⟩ := k
    rw [List.foldl_cons, ih, BitVec.getLsbD_or, hwide]
    grind

theorem getLsbD_errClassBits (t : ErrTable) (j : Nat) :
    (errClassBits t).getLsbD j = true ↔ ∃ k w, (k, w) ∈ t.cls ∧ w.getLsbD j = true := by
  rw [errClassBits, getLsbD_foldl_or]
  simp

/-- A word is within another when each of its bits is one of the other's. -/
theorem and_not_eq_zero_iff (v w : Word) :
    v &&& ~~~w = 0 ↔ ∀ j, v.getLsbD j = true → w.getLsbD j = true := by
  constructor
  · intro h j hv
    have hbit : (v &&& ~~~w).getLsbD j = false := by rw [h]; exact BitVec.getLsbD_zero
    have hj : j < 32 := BitVec.lt_of_getLsbD hv
    simpa [BitVec.getLsbD_and, BitVec.getLsbD_not, hv, hj] using hbit
  · intro h
    apply BitVec.eq_of_getLsbD_eq
    intro j hj
    rw [BitVec.getLsbD_and, BitVec.getLsbD_not]
    cases hv : v.getLsbD j with
    | false => simp
    | true => simp [h j hv]

/-- An error mask is a set of class bits (log entry 30). -/
theorem regLegal_errMask_iff (p : Params) (v : Nat) :
    regLegal p .errMask v = true ↔
      v < 2 ^ 32 ∧ ∀ j, v.testBit j = true → ∃ k w, (k, w) ∈ p.errTable.cls ∧ w.getLsbD j = true := by
  rw [regLegal, Bool.and_eq_true, decide_eq_true_eq, decide_eq_true_eq, and_not_eq_zero_iff]
  refine and_congr_right fun hrange => forall_congr' fun j => ?_
  have hbit : (BitVec.ofNat 32 v).getLsbD j = v.testBit j := by
    have hhigh : 32 ≤ j → v.testBit j = false := fun hj =>
      Nat.testBit_lt_two_pow (Nat.lt_of_lt_of_le hrange (Nat.pow_le_pow_right (by decide) hj))
    rw [BitVec.getLsbD_ofNat]
    grind
  rw [hbit, getLsbD_errClassBits]

/-- Settles O14: the error mask by its bits, every other register by its range. -/
theorem legalValues : Obligations.LegalValues := by
  intro p v
  have hrange (n : Nat) : decide (v < n) = true ↔ v < n := decide_eq_true_iff
  refine ⟨(hrange _).trans ?_, hrange _, hrange _, (hrange _).trans ?_, (hrange _).trans ?_, (hrange _).trans ?_,
    (hrange _).trans ?_, regLegal_errMask_iff p v, (hrange _).trans ?_, (hrange _).trans ?_⟩ <;> omega

/-! ### Reads (43_port.md R197) -/

/-- Settles O16: the value is the one `regRead` gives, whatever it is before the first write. -/
theorem cfgReadResult : Obligations.CfgReadResult := by
  intro reg r sysOk errno s hmem
  refine ⟨regRead s.cfg r, ?_, ?_⟩
  · rw [exec_cfgRead reg r sysOk errno s (regOfSelector_table (reg, r) hmem), runOp_readReg]
    simp only [← passThrough_iff]
  · cases r with
    | errMask =>
      dsimp only [regRead]
      split
      case isTrue hset => exact ⟨BitVec.isLt _, fun _ => rfl⟩
      case isFalse hset => exact ⟨BitVec.isLt _, fun h => absurd h hset⟩
    | loopback =>
      dsimp only [regRead]
      split
      case isTrue hset => exact ⟨Bool.toNat_lt _, fun _ => rfl⟩
      case isFalse hset => exact ⟨Bool.toNat_lt _, fun h => absurd h hset⟩
    | recvOwn =>
      dsimp only [regRead]
      split
      case isTrue hset => exact ⟨Bool.toNat_lt _, fun _ => rfl⟩
      case isFalse hset => exact ⟨Bool.toNat_lt _, fun h => absurd h hset⟩
    | _ => rfl

/-! ### The rows of group REG (log entry 8) -/

/-- The table of the rows of group REG: each is the access to its register. -/
theorem regRow_table (acc : RegAccess) :
    ∀ k ∈ [(Instr.regRxCapacity, Reg.rxCapacity), (Instr.regNBs, Reg.nBs), (Instr.regNCr, Reg.nCr),
        (Instr.regWftMax, Reg.wftMax), (Instr.regLocalStmin, Reg.localStmin), (Instr.regPadEn, Reg.padEn),
        (Instr.regPadByte, Reg.padByte), (Instr.regErrMask, Reg.errMask), (Instr.regLoopback, Reg.loopback),
        (Instr.regRecvOwn, Reg.recvOwn)], regRow (k.1 acc) = some (k.2, acc) := by
  simp only [List.forall_mem_cons, regRow, true_and]
  exact nofun

/-- Every register has a selector (30_encoding.md R117). -/
theorem exists_selector (r : Reg) :
    ∃ reg, (reg, r) ∈ [((0 : BitVec 4), Reg.rxCapacity), (1, .nBs), (2, .nCr), (3, .wftMax), (4, .localStmin),
      (5, .padEn), (6, .padByte), (7, .errMask), (8, .loopback), (9, .recvOwn)] := by
  cases r <;> simp

/-- Settles O17: a row reads as its register does, and writes as the CFG_WRITE of its register's selector. -/
theorem regRowsResult : Obligations.RegRowsResult := by
  intro sysOk errno s k hk refused
  refine ⟨?_, fun v => ?_⟩
  · rw [exec_regRow s (regRow_table _ k hk)]
    refine (runOp_readReg k.2 sysOk errno s).trans ?_
    simp only [passThrough_iff]
    rfl
  · obtain ⟨reg, hreg⟩ := exists_selector k.2
    have hexec : exec (k.1 (.write v sysOk errno)) s = exec (.cfgWrite reg v sysOk errno) s :=
      (exec_regRow s (regRow_table _ k hk)).trans
        (exec_cfgWrite reg k.2 v sysOk errno s (regOfSelector_table (reg, k.2) hreg)).symm
    rw [hexec]
    exact cfgWriteResult reg k.2 v sysOk errno s hreg

/-- Settles O18: a reserved selector is refused before anything of the state is looked at. -/
theorem reservedRefused : Obligations.ReservedRefused := by
  intro l1 l2 v errno sysOk s
  refine ⟨rfl, rfl, rfl, fun reg hreg => ?_⟩
  have hnone := (regOfSelector_eq_none_iff reg).mpr hreg
  exact ⟨exec_cfgWrite_reserved v sysOk errno s hnone, exec_cfgRead_reserved sysOk errno s hnone⟩

/-! ### Filters (41_filter_set.md R160 to R162) -/

/-- Settles O6: the stored list, free and cut to 512 pairs before the first FILTER_APPLY. -/
theorem filterReadResult : Obligations.FilterReadResult := by
  intro sysOk errno s
  refine ⟨storedFilters s.cfg, fun hset => ?_, fun hunset => ?_, exec_filterRead sysOk errno s⟩
  · rw [storedFilters, if_pos hset]
  · rw [storedFilters, hunset, if_neg Bool.false_ne_true]
    exact List.length_take_le ..

/-- A single bit of a word tested through a mask. -/
theorem and_twoPow_ne_zero_iff (w : Word) (i : Nat) : w &&& BitVec.twoPow 32 i ≠ 0 ↔ w.getLsbD i = true := by
  rw [BitVec.and_twoPow]
  split
  case isTrue hset =>
    have hi : i < 32 := BitVec.lt_of_getLsbD hset
    have hone : BitVec.twoPow 32 i ≠ 0 := fun hzero => by
      have hbit := congrArg (fun x : Word => x.getLsbD i) hzero
      simp [hi] at hbit
    exact iff_of_true hone hset
  case isFalse hclear => exact iff_of_false (fun h => h rfl) hclear

theorem invFlag_eq : invFlag = BitVec.twoPow 32 29 := by decide

/-- Both type bits of a mask set. -/
theorem and_typeBits_eq_iff (w : Word) :
    w &&& (effFlag ||| rtrFlag) = effFlag ||| rtrFlag ↔ (w.getLsbD 31 && w.getLsbD 30) = true := by
  have hbits (j : Nat) : (effFlag ||| rtrFlag).getLsbD j = (decide (j = 31) || decide (j = 30)) := by
    rw [BitVec.getLsbD_or, effFlag_eq, rtrFlag_eq, BitVec.getLsbD_twoPow, BitVec.getLsbD_twoPow]
    grind
  constructor
  · intro h
    have hbit (j : Nat) : (w.getLsbD j && (effFlag ||| rtrFlag).getLsbD j) = (effFlag ||| rtrFlag).getLsbD j := by
      rw [← BitVec.getLsbD_and, h]
    have h31 := hbit 31
    have h30 := hbit 30
    simp only [hbits] at h31 h30
    grind
  · intro h
    apply BitVec.eq_of_getLsbD_eq
    intro j hj
    rw [BitVec.getLsbD_and, hbits]
    grind

/-- FilterDecode, its two tests as bits of the pair. -/
theorem filterDecode_eq (p : RawFilter) :
    filterDecode p =
      if p.mask.getLsbD 31 && p.mask.getLsbD 30 then
        { id := p.id &&& ~~~invFlag &&& ~~~effFlag
          mask := p.mask &&& ~~~(effFlag ||| rtrFlag)
          exclusivity := if p.id.getLsbD 31 then .extended else .standard
          invert := p.id.getLsbD 29 }
      else { id := p.id &&& ~~~invFlag, mask := p.mask, exclusivity := .both, invert := p.id.getLsbD 29 } := by
  have hinv : decide (p.id &&& invFlag ≠ 0) = p.id.getLsbD 29 := by
    rw [invFlag_eq, Bool.eq_iff_iff, decide_eq_true_iff, and_twoPow_ne_zero_iff]
  have heff : p.id &&& effFlag ≠ 0 ↔ p.id.getLsbD 31 = true := by rw [effFlag_eq, and_twoPow_ne_zero_iff]
  unfold filterDecode
  simp only [hinv, heff, and_typeBits_eq_iff]

/-- The bits FilterDecode takes from a pair (41_filter_set.md R161). -/
theorem getLsbD_filterDecode (p : RawFilter) (j : Nat) (hj : j < 32) :
    (filterDecode p).id.getLsbD j =
      (p.id.getLsbD j && decide (j ≠ 29) && !(decide (j = 31) && p.mask.getLsbD 31 && p.mask.getLsbD 30)) ∧
    (filterDecode p).mask.getLsbD j =
      (p.mask.getLsbD j && !(decide (30 ≤ j) && p.mask.getLsbD 31 && p.mask.getLsbD 30)) := by
  have htop : decide (30 ≤ j) = (decide (31 = j) || decide (30 = j)) := by
    rw [Bool.eq_iff_iff]
    simp only [Bool.or_eq_true, decide_eq_true_eq]
    omega
  rw [filterDecode_eq, htop]
  cases htyped : p.mask.getLsbD 31 && p.mask.getLsbD 30 with
  | true =>
    rw [if_pos rfl]
    simp only [BitVec.getLsbD_and, BitVec.getLsbD_not, BitVec.getLsbD_or, invFlag_eq, effFlag_eq, rtrFlag_eq,
      BitVec.getLsbD_twoPow]
    grind
  | false =>
    rw [if_neg Bool.false_ne_true]
    simp only [BitVec.getLsbD_and, BitVec.getLsbD_not, invFlag_eq, BitVec.getLsbD_twoPow]
    grind

/-- Settles O8: the filter is the one FilterDecode gives, whichever row the pair is issued through. -/
theorem filterRowsRead : Obligations.FilterRowsRead := by
  intro p s i hi
  have hexec : exec i s = .next (s.ended [] (.value (.filters [filterDecode p]))) := by
    simp only [List.mem_cons, List.not_mem_nil, or_false] at hi
    rcases hi with rfl | rfl | rfl <;> exact readPair_spec p s
  refine ⟨filterDecode p, hexec, ?_, ?_, getLsbD_filterDecode p⟩ <;> rw [filterDecode_eq] <;> split <;> rfl

/-- The bits FilterEncode adds to a filter's words (41_filter_set.md R156). -/
theorem getLsbD_filterEncode (f : Filter) (j : Nat) :
    (filterEncode f).id.getLsbD j =
      (f.id.getLsbD j || decide (f.exclusivity = .extended) && decide (j = 31) || f.invert && decide (j = 29)) ∧
    (filterEncode f).mask.getLsbD j =
      (f.mask.getLsbD j || decide (f.exclusivity ≠ .both) && (decide (j = 31) || decide (j = 30))) := by
  constructor
  · simp only [filterEncode, BitVec.getLsbD_or, getLsbD_flagIf, effFlag_eq, invFlag_eq, BitVec.getLsbD_twoPow]
    grind
  · simp only [filterEncode, BitVec.getLsbD_or, getLsbD_flagIf, effFlag_eq, rtrFlag_eq, BitVec.getLsbD_twoPow]
    grind

theorem getLsbD_of_lt_two_pow_29 {w : Word} (hw : w.toNat < 2 ^ 29) (j : Nat) (hj : 29 ≤ j) : w.getLsbD j = false :=
  Nat.testBit_lt_two_pow (Nat.lt_of_lt_of_le hw (Nat.pow_le_pow_right (by decide) hj))

section RoundTrip

variable {f : Filter} (hid : f.id.toNat < 2 ^ 29) (hmask : f.mask.toNat < 2 ^ 29)

include hid in
/-- The two flag bits of an encoded id. -/
theorem filterEncode_id_flags :
    (filterEncode f).id.getLsbD 31 = decide (f.exclusivity = .extended) ∧
    (filterEncode f).id.getLsbD 29 = f.invert := by
  rw [(getLsbD_filterEncode f 31).1, (getLsbD_filterEncode f 29).1, getLsbD_of_lt_two_pow_29 hid 31 (by decide),
    getLsbD_of_lt_two_pow_29 hid 29 (by decide)]
  simp

include hmask in
/-- The two type bits of an encoded mask. -/
theorem filterEncode_mask_flags :
    (filterEncode f).mask.getLsbD 31 = decide (f.exclusivity ≠ .both) ∧
    (filterEncode f).mask.getLsbD 30 = decide (f.exclusivity ≠ .both) := by
  rw [(getLsbD_filterEncode f 31).2, (getLsbD_filterEncode f 30).2, getLsbD_of_lt_two_pow_29 hmask 31 (by decide),
    getLsbD_of_lt_two_pow_29 hmask 30 (by decide)]
  simp

include hid hmask

/-- A pair of a filter with 29-bit words reads back as the filter (41_filter_set.md R162). -/
theorem filterDecode_filterEncode : filterDecode (filterEncode f) = f := by
  obtain ⟨hext, hinv⟩ := filterEncode_id_flags hid
  obtain ⟨hm31, hm30⟩ := filterEncode_mask_flags hmask
  have hid' : (filterDecode (filterEncode f)).id = f.id := by
    apply BitVec.eq_of_getLsbD_eq
    intro j hj
    have hhigh := getLsbD_of_lt_two_pow_29 hid j
    rw [(getLsbD_filterDecode _ j hj).1, (getLsbD_filterEncode f j).1, hm31, hm30]
    cases f.exclusivity <;> grind
  have hmask' : (filterDecode (filterEncode f)).mask = f.mask := by
    apply BitVec.eq_of_getLsbD_eq
    intro j hj
    have hhigh := getLsbD_of_lt_two_pow_29 hmask j
    rw [(getLsbD_filterDecode _ j hj).2, (getLsbD_filterEncode f j).2, hm31, hm30]
    cases f.exclusivity <;> grind
  have hrest : (filterDecode (filterEncode f)).exclusivity = f.exclusivity ∧
      (filterDecode (filterEncode f)).invert = f.invert := by
    rw [filterDecode_eq, hext, hinv, hm31, hm30]
    cases f.exclusivity <;> exact ⟨rfl, rfl⟩
  obtain ⟨hexcl, hinvert⟩ := hrest
  calc filterDecode (filterEncode f)
      = ⟨(filterDecode (filterEncode f)).id, (filterDecode (filterEncode f)).mask,
          (filterDecode (filterEncode f)).exclusivity, (filterDecode (filterEncode f)).invert⟩ := rfl
    _ = f := by rw [hid', hmask', hexcl, hinvert]

end RoundTrip

theorem length_fltImage (wo : WordOrder) (raw : List RawFilter) : (fltImage wo raw).length = 8 * raw.length := by
  rw [fltImage, List.length_flatMap]
  simp [Nat.mul_comm]

/-- FILTER_APPLY of a list that passes its checks: the image, and the pairs stored. -/
theorem exec_filterApply_stored {filters : List Filter} (errno : Nat) {s : State} (hopen : s.mode ≠ .closed)
    (hlen : filters.length ≤ maxFilters) :
    ∃ t, exec (.filterApply filters true errno) s = .next t ∧
      t.result = .value (.bytes (fltImage s.params.wordOrder (filters.map filterEncode))) ∧
      t.mode = s.mode ∧ t.cfg.filters = filters.map filterEncode ∧ t.cfg.filtersSet = true := by
  have happly := exec_filterApply filters true errno s
  rw [if_neg hopen, if_neg (Nat.not_lt.mpr hlen), if_neg Bool.true_eq_false.mp] at happly
  exact ⟨_, happly, rfl, rfl, rfl, rfl⟩

/-- FILTER_READ of a list that was applied. -/
theorem exec_filterRead_stored (errno : Nat) {t : State} (hopen : t.mode ≠ .closed) (hset : t.cfg.filtersSet = true) :
    exec (.filterRead true errno) t =
      .next (t.ended [] (.value (.filters (t.cfg.filters.map filterDecode)))) := by
  rw [exec_filterRead, if_neg hopen, if_neg Bool.true_eq_false.mp, storedFilters, if_pos hset]

/-- Settles O7: what FILTER_APPLY stores is read back pair by pair. -/
theorem filterRoundTrip : Obligations.FilterRoundTrip := by
  intro filters e1 e2 s hopen hlen hwords
  have hback : (filters.map filterEncode).map filterDecode = filters := by
    rw [List.map_map]
    refine (List.map_congr_left fun f hf => ?_).trans (List.map_id filters)
    obtain ⟨hid, hmask⟩ := hwords f hf
    exact filterDecode_filterEncode hid hmask
  obtain ⟨t, happly, hresult, hmode, hstored, hset⟩ := exec_filterApply_stored e1 hopen hlen
  refine ⟨t, _, happly, hresult, ?_, ?_⟩
  · rw [length_fltImage, List.length_map]
  · rw [exec_filterRead_stored e2 (hmode.symm ▸ hopen) hset, hstored, hback]

/-! ### Pack after Unpack (40_frame_codec.md R150) -/

/-- A word is the packing of what UnpackWord reads, when the bits MaskId drops are clear. -/
theorem packWord_unpackWord (w : Word) (n : Nat) (payload : Bytes)
    (hclear : w.getLsbD 31 = false → w.getLsbD 29 = false → w.extractLsb' 11 18 = 0) :
    packWord (unpackWord w n payload) = w := by
  apply BitVec.eq_of_getLsbD_eq
  intro j hj
  have hbit : w.getLsbD 31 = false → w.getLsbD 29 = false → 11 ≤ j → j < 29 → w.getLsbD j = false := by
    intro h31 h29 hlow hhigh
    have h := congrArg (fun x : BitVec 18 => x.getLsbD (j - 11)) (hclear h31 h29)
    simpa [BitVec.getLsbD_extractLsb', hlow, show j - 11 < 18 by omega, Nat.add_sub_cancel' hlow] using h
  rw [getLsbD_packWord, getLsbD_packId]
  simp only [unpackWord, getLsbD_unpackId]
  have hcases : j < 29 ∨ j = 29 ∨ j = 30 ∨ j = 31 := by omega
  rcases hcases with hlow | rfl | rfl | rfl
  · grind
  all_goals grind

/-- The bytes of a word that was read from four bytes (00_scope.md R14). -/
theorem w32_unW32 (wo : WordOrder) (b0 b1 b2 b3 : Byte) : w32 wo (unW32 wo [b0, b1, b2, b3]) = [b0, b1, b2, b3] := by
  have hbyte (c3 c2 c1 c0 : Byte) : (wordOf c3 c2 c1 c0).extractLsb' 0 8 = c0 ∧
      (wordOf c3 c2 c1 c0).extractLsb' 8 8 = c1 ∧ (wordOf c3 c2 c1 c0).extractLsb' 16 8 = c2 ∧
      (wordOf c3 c2 c1 c0).extractLsb' 24 8 = c3 := by
    refine ⟨?_, ?_, ?_, ?_⟩ <;> apply BitVec.eq_of_getLsbD_eq <;> intro j hj <;>
      simp only [wordOf, BitVec.getLsbD_append, BitVec.getLsbD_extractLsb'] <;> grind
  cases wo with
  | little =>
    obtain ⟨h0, h1, h2, h3⟩ := hbyte b3 b2 b1 b0
    simp only [w32, unW32, le32, h0, h1, h2, h3]
  | big =>
    obtain ⟨h0, h1, h2, h3⟩ := hbyte b0 b1 b2 b3
    simp only [w32, unW32, be32, h0, h1, h2, h3]

/-- Settles O4: the word by its bits, the rest of the image byte by byte. -/
theorem packUnpack : Obligations.PackUnpack := by
  intro wo b hlen _ hreserved hclear
  match b, hlen with
  | b0 :: b1 :: b2 :: b3 :: len :: r5 :: r6 :: r7 :: payload, _ =>
    obtain ⟨rfl, rfl, rfl⟩ : r5 = 0 ∧ r6 = 0 ∧ r7 = 0 := by simpa using hreserved
    have hword : packWord (unpack wo (b0 :: b1 :: b2 :: b3 :: len :: 0 :: 0 :: 0 :: payload)) =
        unW32 wo [b0, b1, b2, b3] := packWord_unpackWord _ _ _ hclear
    have hlength : BitVec.ofNat 8 len.toNat = len := by simp
    rw [pack, hword, w32_unW32]
    change [b0, b1, b2, b3] ++ [BitVec.ofNat 8 len.toNat] ++ zeros 3 ++ payload = _
    rw [hlength]
    rfl

end Sys2Proof.Machine
end

section
/-! PROOFS. Frames received (44_tp_receive.md): the rows of group NPDU on a bound port, each by what PduDecode makes of it
and what its handler then leaves, after the expiry pass. -/

namespace Sys2Proof.Machine

/-! ### The end of an operation that wrote a slot -/

section EndOp

variable {e : State} (hres : e.result = .noValue)

include hres

theorem endOp_wrote (c : Nat) (sl : Slot) (actions : List Action) (txo : List TxOutcome) :
    endOp { e with txo := txo, slots := e.slots.set c sl, actions := e.actions ++ actions } =
      e.andThenSlot c sl actions := by
  simp only [endOp, State.andThenSlot, State.andThen, State.ended, ← hres]

theorem endOp_setSlot (c : Nat) (sl : Slot) : endOp (setSlot c sl e) = e.andThenSlot c sl [] := by
  simp only [endOp, setSlot, State.andThenSlot, State.andThen, State.ended, List.append_nil, ← hres]

theorem endOp_finish (c : Nat) (code : ResultCode) :
    endOp (finish c code e) = e.andThenSlot c (e.slot c).freed [e.delivery c code] := by
  rw [finish_spec]
  exact endOp_wrote hres c _ _ e.txo

theorem endOp_report (c : Nat) : endOp (report c e) = e.andThen [e.unexpected c] := endOp_emit _ e hres

end EndOp

/-! ### Rows -/

section Rows

variable {c : Nat} {rx : RxArgs} {s : State} (hmode : s.mode = .bound) (hc : c < s.params.nCh)

include hmode hc

/-- A row whose frame fits is handled as PduDecode reads it, after the expiry pass. -/
theorem exec_npduRow_pdu {i : Instr} {n : Npdu} (hrow : npduRow i = some (c, rx)) (hpdu : rowPdu (s.channel c) i = n)
    (hfits : (s.channel c).aoff + rowSize i ≤ 8) :
    exec i s = .next (endOp (handlePdu c rx.now.toNat n (s.served rx.now rx.txo))) := by
  rw [exec_npduRow_bound hrow hmode hc hfits, hpdu]

/-- A row that PduDecode does not read leaves what the expiry pass leaves (44_tp_receive.md R225). -/
theorem exec_npduRow_invalid {i : Instr} (hrow : npduRow i = some (c, rx))
    (hfits : (s.channel c).aoff + rowSize i ≤ 8) (hpdu : rowPdu (s.channel c) i = .invalid) :
    exec i s = .next ((s.served rx.now rx.txo).andThen []) := by
  rw [exec_npduRow_pdu hmode hc hrow hpdu hfits]
  exact congrArg _ (endOp_eq_andThen _ (served_result ..))

/-- A row of an unknown type is reported, whatever the slot holds (44_tp_receive.md R248). -/
theorem exec_npduRow_unknown {i : Instr} (hrow : npduRow i = some (c, rx))
    (hfits : (s.channel c).aoff + rowSize i ≤ 8) {t : BitVec 4} (hpdu : rowPdu (s.channel c) i = .unknownType t) :
    exec i s = .next ((s.served rx.now rx.txo).andThen [s.unexpected c]) := by
  rw [exec_npduRow_pdu hmode hc hrow hpdu hfits, ← served_unexpected rx.now rx.txo s c]
  exact congrArg _ (endOp_report (served_result ..) c)

end Rows

/-- Settles O34: both rows are of an unknown type. -/
theorem unknownReported : Obligations.UnknownReported := by
  intro c l6 l7 rest rx s hmode hc hfits i hi
  have hsize : (s.channel c).aoff + (1 + rest.length) ≤ 8 := by omega
  simp only [List.mem_cons, List.not_mem_nil, or_false] at hi
  rcases hi with rfl | rfl <;> exact exec_npduRow_unknown hmode hc rfl hsize rfl

/-- Settles O29: the bytes are a SingleFrame to PduDecode, whose handler reports a reception it interrupts first. -/
theorem singleFrameDelivered : Obligations.SingleFrameDelivered := by
  intro c dl rest rx s hmode hc hfits hmax hlen
  have hsize : (s.channel c).aoff + (1 + rest.length) ≤ 8 := by omega
  have hparses : ¬ ((s.channel c).sfMax < dl.toNat ∨ rest.length < dl.toNat) := by
    rw [Channel.sfMax]
    omega
  have hpdu : rowPdu (s.channel c) (.npduSf c dl rest rx) = .sf (rest.take dl.toNat) := if_neg hparses
  rw [exec_npduRow_pdu hmode hc rfl hpdu hsize]
  exact congrArg _ (endOp_rxSF c _ _ (served_result ..))

/-! ### Numbers in transport frames (30_encoding.md R103, R104) -/

theorem toNat_append_eq {n m : Nat} (x : BitVec n) (y : BitVec m) : (x ++ y).toNat = x.toNat * 2 ^ m + y.toNat := by
  rw [BitVec.toNat_append, ← Nat.shiftLeft_add_eq_or_of_lt y.isLt, Nat.shiftLeft_eq]

/-- A word from its bytes, as a number. -/
theorem toNat_wordOf (b3 b2 b1 b0 : Byte) :
    (wordOf b3 b2 b1 b0).toNat = b3.toNat * 2 ^ 24 + b2.toNat * 2 ^ 16 + b1.toNat * 2 ^ 8 + b0.toNat := by
  rw [wordOf, toNat_append_eq, toNat_append_eq, toNat_append_eq]
  omega

/-! ### FirstFrames (44_tp_receive.md R228 to R234) -/

/-- A well-formed FirstFrame row is read as its length and its first chunk. -/
theorem firstFrame_row {s : State} {i : Instr} {c total : Nat} {data : Bytes} {rx : RxArgs}
    (h : FirstFrame s.params i c total data rx) :
    npduRow i = some (c, rx) ∧ (s.channel c).aoff + rowSize i = 8 ∧ rowPdu (s.channel c) i = .ff total data := by
  rcases h with ⟨len, rest, rfl, rfl, rfl, hlen, htotal⟩ | ⟨b3, b2, b1, b0, rest, rfl, rfl, rfl, hlen, htotal⟩
  · have hsize : (s.channel c).aoff + 2 + data.length = 8 := hlen
    have hmin : (s.channel c).sfMax < len.toNat := htotal
    refine ⟨rfl, by rw [rowSize]; omega, if_neg ?_⟩
    omega
  · have hsize : (s.channel c).aoff + 2 + (b3 :: b2 :: b1 :: b0 :: data).length = 8 := by
      have hlen' : (s.channel c).aoff + 6 + data.length = 8 := hlen
      simp only [List.length_cons]
      omega
    have htotal' := toNat_wordOf b3 b2 b1 b0
    refine ⟨rfl, by rw [rowSize]; omega, ?_⟩
    rw [← htotal'] at htotal ⊢
    refine if_neg ?_
    rintro (hbad | hbad)
    · exact hbad hsize
    · exact Nat.not_lt.mpr hbad htotal

/-- The state in which a reception starts: the one it interrupts has been reported (44_tp_receive.md R230). -/
def State.interrupted (e : State) (c : Nat) : State :=
  if (e.slot c).valid then finish c .unexpectedPdu e else e

theorem interrupted_eq (e : State) (c : Nat) :
    e.interrupted c =
      { e with
        slots := e.slots.set c (e.slot c).freed
        actions := e.actions ++ (if (e.slot c).valid then [e.delivery c .unexpectedPdu] else []) } := by
  rw [State.interrupted]
  cases hvalid : (e.slot c).valid with
  | true =>
    rw [if_pos rfl, if_pos rfl, finish_spec]
  | false =>
    rw [if_neg Bool.false_ne_true, if_neg Bool.false_ne_true, freed_of_not_valid _ hvalid, set_slot_self,
      List.append_nil]

section FirstFrame

variable {c total : Nat} {data : Bytes} {now : Nat} {e : State}

theorem rxFF_functional (hfun : (e.peer c).taType = .functional) : rxFF c total data now e = e := if_pos hfun

theorem rxFF_over (hphys : (e.peer c).taType = .physical) (hover : e.cfg.rxCapacity.toNat < total) :
    rxFF c total data now e = emit (.rxReject (e.peer c) .bufferOverflow) e :=
  (if_neg (by rw [hphys]; exact nofun)).trans (if_pos hover)

theorem rxFF_sending (hphys : (e.peer c).taType = .physical) (hcap : total ≤ e.cfg.rxCapacity.toNat)
    (hvalid : (e.slot c).valid = true) (hdir : (e.slot c).direction = .sending) :
    rxFF c total data now e = report c e := by
  rw [rxFF, if_neg (by rw [hphys]; exact nofun), if_neg (Nat.not_lt.mpr hcap), if_pos hvalid, hdir]

theorem rxFF_starts (hphys : (e.peer c).taType = .physical) (hcap : total ≤ e.cfg.rxCapacity.toNat)
    (hfree : ¬ ((e.slot c).valid = true ∧ (e.slot c).direction = .sending)) :
    rxFF c total data now e = startReceiving c total data now (e.interrupted c) := by
  rw [rxFF, if_neg (by rw [hphys]; exact nofun), if_neg (Nat.not_lt.mpr hcap), State.interrupted]
  cases hvalid : (e.slot c).valid with
  | false => rw [if_neg Bool.false_ne_true, if_neg Bool.false_ne_true]
  | true =>
    rw [if_pos rfl, if_pos rfl]
    cases hdir : (e.slot c).direction with
    | sending => exact absurd ⟨hvalid, hdir⟩ hfree
    | receiving => rfl

variable (total data now) (hc : c < e.slots.length) (hres : e.result = .noValue)

include hc hres

theorem endOp_startReceiving_of_done (hdone : e.nextTx = .done) :
    endOp (startReceiving c total data now (e.interrupted c)) =
      e.andThenSlot c
        ⟨true, .receiving, .accumulatingFF, total, data.length, 1, now + e.cfg.nCr.toNat, 0, .cr, 0, 0, 0, data⟩
        ((if (e.slot c).valid then [e.delivery c .unexpectedPdu] else []) ++ [.txFrame (e.fcTo c)]) := by
  have hlen : c < (e.interrupted c).slots.length := by
    rw [interrupted_eq]
    simpa using hc
  have hnext : (e.interrupted c).nextTx = .done := by
    rw [interrupted_eq]
    exact hdone
  rw [startReceiving_of_done total data now hlen hnext, accepted_armed, interrupted_eq]
  dsimp only
  rw [List.set_set, List.append_assoc]
  exact endOp_wrote hres c _ _ e.txo.tail

theorem endOp_startReceiving_of_lost (hlost : e.nextTx ≠ .done) :
    ∃ sl : Slot, sl.valid = false ∧ endOp (startReceiving c total data now (e.interrupted c)) =
      e.andThenSlot c sl
        ((if (e.slot c).valid then [e.delivery c .unexpectedPdu] else []) ++
          [.onMessage data (e.peer c) (txCode e.nextTx)]) := by
  have hlen : c < (e.interrupted c).slots.length := by
    rw [interrupted_eq]
    simpa using hc
  have hnext : (e.interrupted c).nextTx ≠ .done := by
    rw [interrupted_eq]
    exact hlost
  refine ⟨(((e.interrupted c).slot c).accepted total data).freed, rfl, ?_⟩
  rw [startReceiving_of_lost total data now hlen hnext, interrupted_eq]
  dsimp only
  rw [List.set_set, List.append_assoc]
  exact endOp_wrote hres c _ _ e.txo.tail

end FirstFrame

/-- A FirstFrame row on a bound port is handled after the expiry pass. -/
theorem exec_firstFrame {s : State} {i : Instr} {c total : Nat} {data : Bytes} {rx : RxArgs}
    (h : FirstFrame s.params i c total data rx) (hmode : s.mode = .bound) (hc : c < s.params.nCh) :
    exec i s = .next (endOp (rxFF c total data rx.now.toNat (s.served rx.now rx.txo))) := by
  obtain ⟨hrow, hsize, hpdu⟩ := firstFrame_row h
  rw [exec_npduRow_bound hrow hmode hc (Nat.le_of_eq hsize), hpdu]
  rfl

/-- Settles O30: the reception starts in the state in which the one it interrupts has been reported. -/
theorem firstFrameStarts : Obligations.FirstFrameStarts := by
  intro i c total data rx s e hff hmode hc hlen hphys hcap hfree hdone
  have hres : e.result = .noValue := served_result ..
  have hslots : c < e.slots.length := by rw [served_length, hlen]; exact hc
  rw [exec_firstFrame hff hmode hc, rxFF_starts (served_peer rx.now rx.txo s c ▸ hphys)
    (served_cfg rx.now rx.txo s ▸ hcap) hfree, endOp_startReceiving_of_done total data _ hslots hres hdone,
    State.fcTo, served_frameTo, served_channel, served_cfg]

/-- Settles O31: the three checks in front of a reception, in their order. -/
theorem firstFrameNotStarted : Obligations.FirstFrameNotStarted := by
  intro i c total data rx s e hff hmode hc
  have hres : e.result = .noValue := served_result ..
  have hpeer : e.peer c = s.peer c := served_peer ..
  have hcfg : e.cfg = s.cfg := served_cfg ..
  rw [exec_firstFrame hff hmode hc]
  refine ⟨fun hfun => ?_, fun hphys hover => ?_, fun hphys hcap hvalid hdir => ?_⟩
  · rw [rxFF_functional (hpeer ▸ hfun)]
    exact congrArg _ (endOp_eq_andThen e hres)
  · rw [rxFF_over (hpeer ▸ hphys) (hcfg ▸ hover), hpeer]
    exact congrArg _ (endOp_emit _ e hres)
  · rw [rxFF_sending (hpeer ▸ hphys) (hcfg ▸ hcap) hvalid hdir]
    exact congrArg _ (endOp_report hres c)

/-- Settles O32: the session just created is ended with its first chunk. -/
theorem firstFrameAnswerLost : Obligations.FirstFrameAnswerLost := by
  intro i c total data rx s code e hff hmode hc hlen hphys hcap hfree hcode
  have hres : e.result = .noValue := served_result ..
  have hslots : c < e.slots.length := by rw [served_length, hlen]; exact hc
  have hlost : e.nextTx ≠ .done := by
    rcases hcode with ⟨h, -⟩ | ⟨h, -⟩ <;> rw [h] <;> exact nofun
  have htx : txCode e.nextTx = code := by
    rcases hcode with ⟨h, rfl⟩ | ⟨h, rfl⟩ <;> rw [h] <;> rfl
  obtain ⟨sl, hsl, hend⟩ := endOp_startReceiving_of_lost total data rx.now.toNat hslots hres hlost
  rw [exec_firstFrame hff hmode hc, rxFF_starts (served_peer rx.now rx.txo s c ▸ hphys)
    (served_cfg rx.now rx.txo s ▸ hcap) hfree, hend]
  have hslot : ∀ actions, (e.andThenSlot c sl actions).slot c = sl := fun _ => slot_of_slots_set hslots rfl
  refine ⟨_, rfl, ?_, ?_⟩
  · rw [hslot]
    exact hsl
  · rw [hslot, htx, served_peer]

/-! ### ConsecutiveFrames (44_tp_receive.md R240 to R244) -/

/-- Settles O33: the checks of R240 in order, in the state after the expiry pass, which meets the invariant. -/
theorem consecutiveFrameHandled : Obligations.ConsecutiveFrameHandled := by
  intro c sn rest rx s e sl n hinv hmode hc hrest hfits
  have hres : e.result = .noValue := served_result ..
  have hok : sl.ok e.mode (e.peer c) = true := ok_of_inv (inv_served hinv rx.now rx.txo) c
  have hsize : (s.channel c).aoff + (1 + rest.length) ≤ 8 := by omega
  have hone : ¬ rest.length < 1 := Nat.not_lt.mpr (List.length_pos_iff.mpr hrest)
  have hpdu : rowPdu (s.channel c) (.npduCf c sn rest rx) = .cf sn rest := if_neg hone
  rw [exec_npduRow_pdu hmode hc rfl hpdu hsize]
  change Host.Outcome.next (endOp (rxCF c sn rest rx.now.toNat e)) = _
  by_cases hno : sl.valid = false ∨ sl.state ≠ .accumulatingFF
  · rw [rxCF_unexpected sn rest _ hno, if_pos hno]
    exact congrArg _ (endOp_report hres c)
  obtain ⟨hvalid, hstate⟩ : sl.valid = true ∧ sl.state = .accumulatingFF := by simpa using hno
  obtain ⟨hdir, hbuf, -⟩ := receiving_of_accumulating hok hvalid hstate
  have hslots := lt_length_of_valid hvalid
  rw [rxCF_expected sn rest _ hno, if_neg hno]
  by_cases hsn : sn ≠ sl.expectedSequenceNumber
  · rw [if_pos hsn, if_pos hsn]
    exact congrArg _ (endOp_finish hres c _)
  rw [if_neg hsn, if_neg hsn]
  by_cases hshort : rest.length < n
  · rw [if_pos hshort, if_pos hshort]
    exact congrArg _ (endOp_eq_andThen e hres)
  rw [if_neg hshort, if_neg hshort]
  have hmoved : (rest.take n).length = n := by rw [List.length_take, Nat.min_eq_left (Nat.not_lt.mp hshort)]
  by_cases hlast : sl.bytesTransferred + n = sl.totalLength
  · rw [storeCf_last hslots hbuf (Nat.not_lt.mp hshort) hdir hlast, if_pos hlast, served_peer]
    exact congrArg _ (endOp_wrote hres c _ _ e.txo)
  · rw [storeCf_more hslots hbuf (Nat.not_lt.mp hshort) hlast, if_neg hlast, endOp_setSlot hres, Slot.stored, hmoved,
      served_cfg]

/-! ### Frames that do not parse (30_encoding.md R106) -/

/-- A long FirstFrame whose length is below 4096 (30_encoding.md R104). -/
theorem toNat_wordOf_le_of_small {rest : Bytes} (h0 : rest.getD 0 0 = 0) (h1 : rest.getD 1 0 = 0)
    (h2 : (rest.getD 2 0).toNat < 16) :
    (wordOf (byteAt rest 0) (byteAt rest 1) (byteAt rest 2) (byteAt rest 3)).toNat ≤ 4095 := by
  have h3 : (byteAt rest 3).toNat < 256 := BitVec.isLt _
  have h2' : (byteAt rest 2).toNat < 16 := h2
  have hzero : (0 : Byte).toNat = 0 := rfl
  rw [toNat_wordOf, show byteAt rest 0 = 0 from h0, show byteAt rest 1 = 0 from h1, hzero]
  omega

/-- Settles O35: each row's test of PduDecode fails. -/
theorem invalidIgnored : Obligations.InvalidIgnored := by
  intro c rest rx s a ignored hmode hc
  refine ⟨fun dl hfits hbad => ?_, fun len hfits hbad => ?_, fun hfits hbad => ?_, fun sn hnil => ?_,
    fun l2 l3 hshort => ?_⟩
  · have hsize : (s.channel c).aoff + (1 + rest.length) ≤ 8 := by omega
    exact exec_npduRow_invalid hmode hc rfl hsize (if_pos hbad)
  · have hsize : (s.channel c).aoff + (2 + rest.length) ≤ 8 := by omega
    exact exec_npduRow_invalid hmode hc rfl hsize (if_pos (hbad.imp_left fun h => by omega))
  · have hsize : (s.channel c).aoff + (2 + rest.length) ≤ 8 := by omega
    refine exec_npduRow_invalid hmode hc rfl hsize (if_pos ?_)
    rcases hbad with hlt | ⟨h0, h1, h2⟩
    · exact .inl (Nat.ne_of_lt hlt)
    · exact .inr (toNat_wordOf_le_of_small h0 h1 h2)
  · have haoff := aoff_le_one (s.channel c)
    subst hnil
    exact exec_npduRow_invalid hmode hc rfl (Nat.le_trans (Nat.add_le_add_right haoff 1) (by decide : 1 + 1 ≤ 8)) rfl
  · have haoff := aoff_le_one (s.channel c)
    have hsize : (s.channel c).aoff + (1 + rest.length) ≤ 8 := by omega
    have hfc (fs : BitVec 4) : fcPdu fs rest = .invalid := if_pos hshort
    exact ⟨exec_npduRow_invalid hmode hc rfl hsize (hfc _), exec_npduRow_invalid hmode hc rfl hsize (hfc _),
      exec_npduRow_invalid hmode hc rfl hsize (hfc _), exec_npduRow_invalid hmode hc rfl hsize (hfc _),
      exec_npduRow_invalid hmode hc rfl hsize (hfc _), exec_npduRow_invalid hmode hc rfl hsize (hfc _)⟩

end Sys2Proof.Machine
end

section
/-! PROOFS. FlowControl received and ConsecutiveFrames sent (45_tp_send.md R265 to R277), and a frame that comes when its
session's timer has expired (60_exceptions.md R327). -/

namespace Sys2Proof.Machine

/-! ### FlowControl rows -/

/-- A FlowControl row on a bound port is handled by its flow status and its two bytes. -/
theorem exec_fcRow {c : Nat} {rx : RxArgs} {s : State} {i : Instr} {fs : BitVec 4} {rest : Bytes}
    (hmode : s.mode = .bound) (hc : c < s.params.nCh) (hlen : 2 ≤ rest.length)
    (hfits : (s.channel c).aoff + 1 + rest.length ≤ 8) (hrow : npduRow i = some (c, rx))
    (hsize : rowSize i = 1 + rest.length) (hpdu : rowPdu (s.channel c) i = fcPdu fs rest) :
    exec i s = .next
      (endOp (rxFC c fs (byteAt rest 0) (byteAt rest 1) rx.now.toNat (s.served rx.now rx.txo))) := by
  have hparses : fcPdu fs rest = .fc fs (byteAt rest 0) (byteAt rest 1) := if_neg (Nat.not_lt.mpr hlen)
  rw [exec_npduRow_pdu hmode hc hrow (hpdu.trans hparses) (by rw [hsize]; omega)]
  rfl

/-- The six FlowControl rows (30_encoding.md R108). -/
theorem fcRow_of_mem {c : Nat} {rest : Bytes} {l2 : BitVec 2} {l3 : BitVec 3} {rx : RxArgs} {i : Instr}
    (hi : i ∈ [Instr.npduFcCts c rest rx, Instr.npduFcWait c rest rx, Instr.npduFcOverflow c rest rx,
      Instr.npduFcReserved3 c rest rx, Instr.npduFcReserved4to7 c l2 rest rx, Instr.npduFcReserved8toF c l3 rest rx]) :
    npduRow i = some (c, rx) ∧ rowSize i = 1 + rest.length ∧ ∃ fs, ∀ ch, rowPdu ch i = fcPdu fs rest := by
  simp only [List.mem_cons, List.not_mem_nil, or_false] at hi
  rcases hi with rfl | rfl | rfl | rfl | rfl | rfl <;> exact ⟨rfl, rfl, _, fun _ => rfl⟩

/-- Settles O36: the handler looks at the slot before the flow status. -/
theorem flowControlUnexpected : Obligations.FlowControlUnexpected := by
  intro c rest l2 l3 rx s e hmode hc hlen hfits hno i hi
  obtain ⟨hrow, hsize, fs, hpdu⟩ := fcRow_of_mem hi
  rw [exec_fcRow hmode hc hlen hfits hrow hsize (hpdu _), rxFC_unexpected _ _ _ _ hno,
    ← served_unexpected rx.now rx.txo s c]
  exact congrArg _ (endOp_report (served_result ..) c)

section Awaited

variable {c : Nat} {e : State} (now : Nat) (hinv : e.Inv) (hvalid : (e.slot c).valid = true)
  (hstate : (e.slot c).state = .awaitingFlowControl) (hres : e.result = .noValue)

include hinv hvalid hstate hres

/-- A ContinueToSend whose ConsecutiveFrame goes out (45_tp_send.md R266, R276). -/
theorem endOp_continue_of_done (bs st : Byte) (hdone : e.nextTx = .done) :
    endOp (sendNextCF c now (setSlot c ((e.slot c).continued bs st) e)) =
      e.andThenSlot c (e.cfSent c ((e.slot c).continued bs st) now)
        (e.cfActions c ((e.slot c).continued bs st)) := by
  have hc := lt_length_of_valid hvalid
  have hslot := slot_setSlot_self c ((e.slot c).continued bs st) e hc
  have hin := inBlock_continued (ok_of_inv hinv c) hvalid hstate bs st
  have hlen : c < (setSlot c ((e.slot c).continued bs st) e).slots.length := by simpa using hc
  rw [sendNextCF_of_done (hslot.symm ▸ hin.direction) hlen (hslot.symm ▸ hin.remaining) hdone, hslot, setSlot_slots,
    List.set_set]
  exact endOp_wrote hres c _ _ e.txo.tail

/-- A ContinueToSend whose ConsecutiveFrame does not go out (45_tp_send.md R277). -/
theorem endOp_continue_of_lost (bs st : Byte) (hlost : e.nextTx ≠ .done) :
    endOp (sendNextCF c now (setSlot c ((e.slot c).continued bs st) e)) =
      e.andThenSlot c ((e.slot c).continued bs st).freed [.sendDone (e.peer c) (txCode e.nextTx)] := by
  have hc := lt_length_of_valid hvalid
  have hslot := slot_setSlot_self c ((e.slot c).continued bs st) e hc
  have hin := inBlock_continued (ok_of_inv hinv c) hvalid hstate bs st
  have hnext : (setSlot c ((e.slot c).continued bs st) e).nextTx ≠ .done := hlost
  rw [sendNextCF_of_lost (hslot.symm ▸ hin.direction) hnext, hslot, setSlot_slots, List.set_set]
  exact endOp_wrote hres c _ _ e.txo.tail

/-- A Wait: past CFG.WFT_MAX the session ends, else Bs is armed afresh (45_tp_send.md R268). -/
theorem endOp_fcWait :
    endOp (fcWait c now e) =
      if e.cfg.wftMax.toNat < (e.slot c).waitFlowControlCount + 1 then
        e.andThenSlot c { e.slot c with waitFlowControlCount := (e.slot c).waitFlowControlCount + 1, valid := false }
          [.sendDone (e.peer c) .flowControlOverrun]
      else
        e.andThenSlot c
          { e.slot c with
            waitFlowControlCount := (e.slot c).waitFlowControlCount + 1
            timer := .bs
            deadline := now + e.cfg.nBs.toNat }
          [] := by
  have hc := lt_length_of_valid hvalid
  split
  case isTrue hover =>
    rw [fcWait_over hc (sending_of_awaiting (ok_of_inv hinv c) hvalid hstate) hover]
    exact endOp_wrote hres c _ _ e.txo
  case isFalse hwithin =>
    rw [fcWait_tolerated hc hwithin]
    exact endOp_setSlot hres c _

/-- A FlowControl that ends its session (45_tp_send.md R269, R270). -/
theorem endOp_fcAbort (code : ResultCode) :
    endOp (finish c code e) = e.andThenSlot c (e.slot c).freed [.sendDone (e.peer c) code] := by
  rw [endOp_finish hres, delivery_of_sending _ (sending_of_awaiting (ok_of_inv hinv c) hvalid hstate)]

end Awaited

/-- A ContinueToSend on a bound port to a session that awaits it. -/
theorem exec_cts_awaited {c : Nat} {bs st : Byte} {tail : Bytes} {rx : RxArgs} {s : State} (hmode : s.mode = .bound)
    (hc : c < s.params.nCh) (hfits : (s.channel c).aoff + 3 + tail.length ≤ 8)
    (hvalid : ((s.served rx.now rx.txo).slot c).valid = true)
    (hstate : ((s.served rx.now rx.txo).slot c).state = .awaitingFlowControl) :
    exec (.npduFcCts c (bs :: st :: tail) rx) s =
      .next (endOp (sendNextCF c rx.now.toNat
        (setSlot c (((s.served rx.now rx.txo).slot c).continued bs st) (s.served rx.now rx.txo)))) := by
  have hlen : 2 ≤ (bs :: st :: tail).length := by simp
  have hsize : (s.channel c).aoff + 1 + (bs :: st :: tail).length ≤ 8 := by
    simp only [List.length_cons]
    omega
  rw [exec_fcRow hmode hc hlen hsize rfl rfl rfl, rxFC_awaited _ _ _ _ hvalid hstate]
  rfl

/-- Settles O37: the values stored, and the frame sent from the slot that holds them. -/
theorem continueToSend : Obligations.ContinueToSend := by
  intro c bs st tail rx s e sl hinv hmode hc hfits hvalid hstate hdone
  rw [exec_cts_awaited hmode hc hfits hvalid hstate]
  exact congrArg _
    (endOp_continue_of_done _ (inv_served hinv rx.now rx.txo) hvalid hstate (served_result ..) bs st hdone)

/-- Settles O38: both sides of CFG.WFT_MAX. -/
theorem waitHandled : Obligations.WaitHandled := by
  intro c rest rx s e sl count hinv hmode hc hlen hfits hvalid hstate
  have hend := endOp_fcWait rx.now.toNat (inv_served hinv rx.now rx.txo) hvalid hstate (served_result ..)
  rw [served_cfg, served_peer] at hend
  rw [exec_fcRow hmode hc hlen hfits rfl rfl rfl, rxFC_awaited _ _ _ _ hvalid hstate]
  exact congrArg _ hend

/-- Settles O39: the flow status gives the code, and the session ends with it. -/
theorem flowControlAborts : Obligations.FlowControlAborts := by
  intro c rest l2 l3 rx s e hinv hmode hc hlen hfits hvalid hstate k hk
  have hreserved : ∀ (l2 : BitVec 2) (l3 : BitVec 3),
      ((1#2 ++ l2 : BitVec 4) ≠ 0 ∧ (1#2 ++ l2 : BitVec 4) ≠ 1 ∧ (1#2 ++ l2 : BitVec 4) ≠ 2) ∧
      ((1#1 ++ l3 : BitVec 4) ≠ 0 ∧ (1#1 ++ l3 : BitVec 4) ≠ 1 ∧ (1#1 ++ l3 : BitVec 4) ≠ 2) := by decide
  have habort (i : Instr) (fs : BitVec 4) (code : ResultCode) (hrow : npduRow i = some (c, rx))
      (hsize : rowSize i = 1 + rest.length) (hpdu : rowPdu (s.channel c) i = fcPdu fs rest)
      (hfs : rxFC c fs (byteAt rest 0) (byteAt rest 1) rx.now.toNat e = finish c code e) :
      exec i s = .next (e.andThenSlot c (e.slot c).freed [.sendDone (s.peer c) code]) := by
    rw [exec_fcRow hmode hc hlen hfits hrow hsize hpdu, hfs,
      endOp_fcAbort (inv_served hinv rx.now rx.txo) hvalid hstate (served_result ..), served_peer]
  have hinvalid (fs : BitVec 4) (h0 : fs ≠ 0) (h1 : fs ≠ 1) (h2 : fs ≠ 2) :
      rxFC c fs (byteAt rest 0) (byteAt rest 1) rx.now.toNat e = finish c .invalidFlowStatus e := by
    rw [rxFC_awaited _ _ _ _ hvalid hstate, if_neg h0, if_neg h1, if_neg h2]
  obtain ⟨⟨h20, h21, h22⟩, h30, h31, h32⟩ := hreserved l2 l3
  simp only [List.mem_cons, List.not_mem_nil, or_false] at hk
  rcases hk with rfl | rfl | rfl | rfl
  · exact habort _ 2 _ rfl rfl rfl (rxFC_awaited _ _ _ _ hvalid hstate)
  · exact habort _ 3 _ rfl rfl rfl (hinvalid 3 (by decide) (by decide) (by decide))
  · exact habort _ _ _ rfl rfl rfl (hinvalid _ h20 h21 h22)
  · exact habort _ _ _ rfl rfl rfl (hinvalid _ h30 h31 h32)

/-! ### A ConsecutiveFrame that does not go out (45_tp_send.md R277) -/

/-- The turn of an expired St timer, when no other slot has expired. -/
theorem served_of_st {c : Nat} {now : BitVec 64} (txo : List TxOutcome) {s : State} (hc : c < s.params.nCh)
    (hexp : (s.slot c).expired now.toNat = true) (hst : (s.slot c).timer = .st)
    (hothers : ∀ d, d ≠ c → (s.slot d).expired now.toNat = false) :
    s.served now txo = sendNextCF c now.toNat (startOp txo s) := by
  have hexp' : ((startOp txo s).slot c).expired now.toNat = true := hexp
  have hst' : ((startOp txo s).slot c).timer = .st := hst
  rw [served_of_one txo hc hothers, expireSlot, if_pos hexp', hst']

/-- Settles O28: the frame is offered, and its loss ends the session, in a turn of the expiry pass and after a
ContinueToSend. -/
theorem consecutiveFrameLost : Obligations.ConsecutiveFrameLost := by
  intro code o hcode
  have hlost : o ≠ .done := by
    rcases hcode with ⟨rfl, -⟩ | ⟨rfl, -⟩ <;> exact nofun
  have htx : txCode o = code := by
    rcases hcode with ⟨rfl, rfl⟩ | ⟨rfl, rfl⟩ <;> rfl
  refine ⟨?turn, ?continued⟩
  case turn =>
    intro now txo c s hinv hc hexp hst hothers hnext
    obtain ⟨hvalid, -⟩ := (expired_iff _ _).mp hexp
    obtain ⟨hdir, -⟩ := sending_of_timer_st (ok_of_inv hinv c) hvalid hst
    have hnext' : (startOp txo s).nextTx = o := hnext
    rw [exec_tick, served_of_st txo hc hexp hst hothers,
      sendNextCF_of_lost (s := startOp txo s) hdir (hnext'.symm ▸ hlost), hnext', htx]
    rfl
  case continued =>
    intro c bs st tail rx s e hmode hinv hc hfits hvalid hstate hnext
    rw [exec_cts_awaited hmode hc hfits hvalid hstate,
      endOp_continue_of_lost _ (inv_served hinv rx.now rx.txo) hvalid hstate (served_result ..) bs st
        (hnext.symm ▸ hlost), hnext, htx, served_peer]

/-! ### A frame that comes too late (60_exceptions.md R327) -/

theorem expireSlot_of_bs {now c : Nat} {s : State} (hexp : (s.slot c).expired now = true)
    (htimer : (s.slot c).timer = .bs) : expireSlot now c s = finish c .timeoutBs s := by
  rw [expireSlot, if_pos hexp, htimer, abort_eq_finish c .timeoutBs]

theorem expireSlot_of_cr {now c : Nat} {s : State} (hexp : (s.slot c).expired now = true)
    (htimer : (s.slot c).timer = .cr) : expireSlot now c s = finish c .timeoutCr s := by
  rw [expireSlot, if_pos hexp, htimer, abort_eq_finish c .timeoutCr]

/-- After the delivery of a timeout the frame is reported. -/
theorem andThen_after_timeout {c : Nat} {s : State} (now : BitVec 64) (txo : List TxOutcome) (code : ResultCode)
    (hserved : s.served now txo = finish c code (startOp txo s)) :
    (s.served now txo).andThen [s.unexpected c] =
      { s.ended [s.delivery c code, s.unexpected c] .noValue with slots := s.slots.set c (s.slot c).freed } := by
  rw [hserved, finish_spec]
  rfl

/-- The slot of a session that timed out holds none. -/
theorem not_valid_after_timeout {c : Nat} {s : State} {now : BitVec 64} {txo : List TxOutcome} {code : ResultCode}
    (hserved : s.served now txo = finish c code (startOp txo s)) (hvalid : (s.slot c).valid = true) :
    ((s.served now txo).slot c).valid = false := by
  have hlen : c < (startOp txo s).slots.length := lt_length_of_valid hvalid
  rw [hserved, finish_spec, slot_of_slots_set hlen rfl]
  rfl

/-- Settles O51: the timer ends the session in the expiry pass, and the handler finds none. -/
theorem timeoutBeatsFrame : Obligations.TimeoutBeatsFrame := by
  intro c rest l2 l3 rx s hinv hmode hc hfits hexp hothers
  obtain ⟨hvalid, -⟩ := (expired_iff _ _).mp hexp
  have hok := ok_of_inv hinv c
  obtain ⟨-, ⟨-, -, hbs, hcr, -⟩, -⟩ := (ok_iff _ _ _).mp hok hvalid
  refine ⟨fun sn hrest hstate => ?_, fun hlen hstate i hi => ?_⟩
  · obtain ⟨hdir, hbuf, -⟩ := receiving_of_accumulating hok hvalid hstate
    have hserved := (served_of_one rx.txo hc hothers).trans
      (expireSlot_of_cr (s := startOp rx.txo s) hexp (hcr.mpr hstate))
    have hfree := not_valid_after_timeout hserved hvalid
    rw [consecutiveFrameHandled c sn rest rx s hinv hmode hc hrest hfits, if_pos (.inl hfree), served_unexpected,
      andThen_after_timeout _ _ _ hserved, delivery_of_receiving _ hdir hbuf]
  · have hserved := (served_of_one rx.txo hc hothers).trans
      (expireSlot_of_bs (s := startOp rx.txo s) hexp (hbs.mpr hstate))
    have hfree := not_valid_after_timeout hserved hvalid
    rw [flowControlUnexpected c rest l2 l3 rx s hmode hc hlen hfits (.inl hfree) i hi,
      andThen_after_timeout _ _ _ hserved, delivery_of_sending _ (sending_of_awaiting hok hvalid hstate)]

end Sys2Proof.Machine
end

section
/-! PROOFS. Inbound units (43_port.md R205, 30_encoding.md R89, R123): the rows of groups IMG and ERRFRM, the units that are
no frame, and RX_RAW of a unit against the row its bits decode to. -/

namespace Sys2Proof.Machine

/-! ### The rows of frames -/

/-- A row of group IMG or ERRFRM on a bound port, its length within a frame's. -/
theorem exec_frameRow_bound {i : Instr} {f : CanFrame} {rx : RxArgs} {s : State} (hrow : frameRow i = some (f, rx))
    (hmode : s.mode = .bound) (hlen : f.length ≤ maxData) :
    exec i s = .next (endOp (deliver f rx.now.toNat (s.served rx.now rx.txo))) := by
  rw [exec_frameRow s hrow, inbound_bound rx _ s hmode, checkedDeliver_of_le _ _ hlen]

/-- The identifier of a standard frame is the low 11 bits of its word. -/
theorem and_0x7FF_eq_extract (w : BitVec 29) : w &&& 0x7FF = (w.extractLsb' 0 11).setWidth 29 := by
  have hmask : (0x7FF : BitVec 29) = (BitVec.allOnes 11).setWidth 29 := by decide
  apply BitVec.eq_of_getLsbD_eq
  intro j hj
  rw [hmask, BitVec.getLsbD_and, BitVec.getLsbD_setWidth, BitVec.getLsbD_setWidth, BitVec.getLsbD_allOnes,
    BitVec.getLsbD_extractLsb']
  grind

/-- Settles O40: each frame goes to the transport after the expiry pass. -/
theorem frameRows : Obligations.FrameRows := by
  intro b rx s hmode hlen e
  have hres : e.result = .noValue := served_result ..
  have hparams : e.params = s.params := served_params ..
  refine ⟨?remote, ?data⟩
  case remote =>
    intro i hi
    have hignored (id : BitVec 29) (ext : Bool)
        (hrow : frameRow i = some (⟨id, ext, true, false, b.len.toNat, b.payload⟩, rx)) :
        exec i s = .next (e.andThen []) := by
      rw [exec_frameRow_bound hrow hmode hlen, deliver_of_no_error _ _ rfl, tpRx_ignored _ _ (.inl rfl)]
      exact congrArg _ (endOp_eq_andThen e hres)
    simp only [List.mem_cons, List.not_mem_nil, or_false] at hi
    rcases hi with rfl | rfl
    · exact hignored (b.word &&& 0x7FF) false rfl
    · exact hignored b.word true rfl
  case data =>
    intro k hk f
    have hrow : frameRow k.1 = some (f, rx) := by
      simp only [List.mem_cons, List.not_mem_nil, or_false] at hk
      rcases hk with rfl | rfl
      · simp only [f, ← and_0x7FF_eq_extract]
        rfl
      · rfl
    rw [exec_frameRow_bound hrow hmode hlen, deliver_of_no_error _ _ rfl]
    refine ⟨fun hnone => ?_, fun c data hsome hsf => ?_⟩
    · rw [tpRx_ignored _ _ (.inr (hparams ▸ hnone))]
      exact congrArg _ (endOp_eq_andThen e hres)
    · rw [tpRx_of_channel _ _ rfl (hparams ▸ hsome), served_channel, hsf]
      exact congrArg _ (endOp_rxSF c data e hres)

/-- A single bit of a word tested through a class value. -/
theorem twoPow_and_ne_zero {n : Nat} {w : BitVec n} {k : Nat} (hbit : w.getLsbD k = true) :
    BitVec.twoPow n k &&& w ≠ 0 := by
  intro hzero
  have hk : k < n := BitVec.lt_of_getLsbD hbit
  have h : (BitVec.twoPow n k &&& w).getLsbD k = false := by rw [hzero]; exact BitVec.getLsbD_zero
  rw [BitVec.getLsbD_and, BitVec.getLsbD_twoPow, hbit, decide_eq_true hk, decide_eq_true rfl] at h
  exact nomatch h

/-- The report of a well-formed class row has the row's class, under the table of 42_error_decoder.md R172. -/
theorem class_mem_report {t : ErrTable} {b : ImgBody} {f : CanFrame} {k : Nat} {cls : ErrorClass} (htable : t = errTableT0)
    (hid : f.id = b.word) (hwf : (b.wellFormed && b.firstClassBit k) = true)
    (hcls : (cls, BitVec.twoPow 29 k) ∈ errClassTable) : cls ∈ (errorReport t f).classes := by
  obtain ⟨-, hfirst⟩ := Bool.and_eq_true_iff.mp hwf
  obtain ⟨hbit, -⟩ := (firstClassBit_iff b k).mp hfirst
  rw [errorReport_classes, mem_bitNames, htable, hid]
  exact ⟨_, hcls, twoPow_and_ne_zero hbit⟩

/-- Settles O41: the frame of each row is the one ERR_DECODE is asked about. -/
theorem errorFramesReported : Obligations.ErrorFramesReported := by
  intro eff rtr b rx s hmode hlen k hk
  have hrow : frameRow k.1 = some (⟨b.word, eff, rtr, true, b.len.toNat, b.payload⟩, rx) := by
    simp only [List.mem_cons, List.not_mem_nil, or_false] at hk
    rcases hk with rfl | rfl | rfl | rfl | rfl | rfl | rfl | rfl | rfl | rfl <;> rfl
  refine ⟨_, ?_, exec_errDecode_of_error _ s rfl, fun htable hwf cls hcls => ?_⟩
  · rw [exec_frameRow_bound hrow hmode hlen, deliver_of_error _ _ rfl, served_params]
    exact congrArg _ (endOp_emit _ _ (served_result ..))
  · simp only [List.mem_cons, List.not_mem_nil, or_false] at hk
    rcases hk with rfl | rfl | rfl | rfl | rfl | rfl | rfl | rfl | rfl | rfl <;> cases hcls <;>
      exact class_mem_report htable rfl hwf (by decide)

/-! ### Units that are no frame (43_port.md R205, R207) -/

theorem endOp_raise (k : ErrorKind) (e : State) : endOp (raise k e) = { e.andThen [] with result := .raised k } := by
  simp only [endOp, raise, State.andThen, State.ended, List.append_nil]

/-- Settles O42: the size of a unit is looked at after the expiry pass. -/
theorem formatErrorAfterExpiry : Obligations.FormatErrorAfterExpiry := by
  intro bytes b rx s hmode malformed
  have hraise {i : Instr} {body : State → State} (hexec : exec i s = inbound rx body s)
      (hbody : body (s.served rx.now rx.txo) = raise .formatError (s.served rx.now rx.txo)) : malformed i := by
    refine hexec.trans ?_
    rw [inbound_bound rx _ s hmode, hbody, endOp_raise]
  have hpdu {i : Instr} {c : Nat} (hrow : npduRow i = some (c, rx)) (hlong : 8 < (s.channel c).aoff + rowSize i) :
      malformed i := by
    refine hraise (exec_npduRow s hrow) (if_pos ?_)
    rw [served_channel]
    exact hlong
  refine ⟨fun hbad => ?_, fun hlong eff rtr i hi => ?_, fun c rest => ⟨fun hlong l4 l2 l3 l6 l7 i hi => ?_,
    fun hlong len i hi => ?_⟩⟩
  · refine hraise (exec_rxRaw bytes rx s) ?_
    rw [decodeImage_eq_none _ _ hbad]
  · obtain ⟨f, hrow, hflen⟩ : ∃ f, frameRow i = some (f, rx) ∧ f.length = b.len.toNat := by
      simp only [List.mem_cons, List.not_mem_nil, or_false] at hi
      rcases hi with rfl | rfl | rfl | rfl | rfl | rfl | rfl | rfl | rfl | rfl | rfl | rfl | rfl | rfl <;>
        exact ⟨_, rfl, rfl⟩
    exact hraise (exec_frameRow s hrow) (checkedDeliver_of_lt _ _ (hflen.symm ▸ hlong))
  · obtain ⟨hrow, hsize⟩ : npduRow i = some (c, rx) ∧ rowSize i = 1 + rest.length := by
      simp only [List.mem_cons, List.not_mem_nil, or_false] at hi
      rcases hi with rfl | rfl | rfl | rfl | rfl | rfl | rfl | rfl | rfl | rfl <;> exact ⟨rfl, rfl⟩
    exact hpdu hrow (by rw [hsize]; omega)
  · obtain ⟨hrow, hsize⟩ : npduRow i = some (c, rx) ∧ rowSize i = 2 + rest.length := by
      simp only [List.mem_cons, List.not_mem_nil, or_false] at hi
      rcases hi with rfl | rfl <;> exact ⟨rfl, rfl⟩
    exact hpdu hrow (by rw [hsize]; omega)

/-! ### RX_RAW and the row of its unit (30_encoding.md R123) -/

/-- An inbound unit is handled in one state, the one the expiry pass leaves. -/
theorem inbound_congr {rx : RxArgs} {body body' : State → State} {s : State}
    (h : body (s.served rx.now rx.txo) = body' (s.served rx.now rx.txo)) :
    inbound rx body s = inbound rx body' s := by
  rw [inbound_spec, inbound_spec, h]

/-- The parts of an image are its word, its length byte and its payload, where DECODE finds them. -/
theorem imageParts_eq_some {wo : WordOrder} {bytes : Bytes} {w : Word} {b : ImgBody}
    (h : imageParts wo bytes = some (w, b)) :
    bytes.length = 16 ∧ unpack wo bytes = unpackWord w b.len.toNat b.payload ∧ b.len = byteAt bytes 4 ∧
      b.word = w.extractLsb' 0 29 := by
  unfold imageParts at h
  split at h
  case h_2 => exact nomatch h
  case h_1 b0 b1 b2 b3 len r5 r6 r7 payload =>
    split at h
    case isFalse => exact nomatch h
    case isTrue hlen =>
      cases h
      exact ⟨by simp [hlen, maxData], rfl, rfl, rfl⟩

/-- Of group IMG, the row's frame is the unit's. -/
theorem frameRow_decodeImg (w : Word) (b : ImgBody) (rx : RxArgs) (hword : b.word = w.extractLsb' 0 29) :
    frameRow (decodeImg w b rx) = some (unpackWord w b.len.toNat b.payload, rx) := by
  have hstd : w.extractLsb' 0 29 &&& 0x7FF = (w.extractLsb' 0 11).setWidth 29 := by
    rw [and_0x7FF_eq_extract]
    apply BitVec.eq_of_getLsbD_eq
    intro j hj
    simp only [BitVec.getLsbD_setWidth, BitVec.getLsbD_extractLsb']
    grind
  simp only [decodeImg, unpackWord, unpackId_eq_extract]
  cases w.getLsbD 29 <;> cases w.getLsbD 31 <;> cases w.getLsbD 30 <;> simp [frameRow, hword, ← hstd]

/-- Of group ERRFRM too: the classes choose the row and not the frame. -/
theorem frameRow_decodeErrFrm {w : Word} {b : ImgBody} {rx : RxArgs} {i : Instr} (hword : b.word = w.extractLsb' 0 29)
    (h : decodeErrFrm w b rx = .ok i) : frameRow i = some (unpackWord w b.len.toNat b.payload, rx) := by
  unfold decodeErrFrm at h
  cases herr : w.getLsbD 29 with
  | false =>
    simp only [herr, Bool.not_false, if_true] at h
    exact nomatch h
  | true =>
    have hframe : unpackWord w b.len.toNat b.payload =
        ⟨b.word, w.getLsbD 31, w.getLsbD 30, true, b.len.toNat, b.payload⟩ := by
      rw [unpackWord, unpackId_eq_extract, herr, hword]
      rfl
    rw [hframe]
    simp only [herr, Bool.not_true, Bool.false_eq_true, if_false] at h
    split_ifs at h <;> cases h <;> rfl

/-- The row of group IMG or ERRFRM that a unit decodes to, and its frame. -/
theorem frameRow_of_decode {wo : WordOrder} {fmt : Format} {bytes : Bytes} {a : Args} {i : Instr}
    (hfmt : fmt = .img ∨ fmt = .errfrm) (hdec : decode wo ⟨fmt, bytes, a⟩ = .ok i) :
    bytes.length = 16 ∧ frameRow i = some (unpack wo bytes, rxArgsOf a) := by
  rcases hfmt with rfl | rfl
  · cases hparts : imageParts wo bytes with
    | none => simp [decode, hparts] at hdec
    | some p =>
      obtain ⟨w, b⟩ := p
      obtain ⟨hlen, hunpack, -, hword⟩ := imageParts_eq_some hparts
      simp only [decode, hparts, Decoded.ok.injEq] at hdec
      rw [hunpack, ← hdec]
      exact ⟨hlen, frameRow_decodeImg w b (rxArgsOf a) hword⟩
  · cases hparts : imageParts wo bytes with
    | none => simp [decode, hparts] at hdec
    | some p =>
      obtain ⟨w, b⟩ := p
      obtain ⟨hlen, hunpack, -, hword⟩ := imageParts_eq_some hparts
      simp only [decode, hparts] at hdec
      rw [hunpack]
      exact ⟨hlen, frameRow_decodeErrFrm hword hdec⟩

/-- Settles O44: RX_RAW and the row look at the length byte and then deliver the same frame. -/
theorem rxRawIsItsRow : Obligations.RxRawIsItsRow := by
  intro fmt bytes a i s hfmt hdec
  obtain ⟨hlen, hrow⟩ := frameRow_of_decode hfmt hdec
  rw [exec_frameRow s hrow]
  refine (exec_rxRaw bytes (rxArgsOf a) s).trans (inbound_congr ?_)
  rw [served_params]
  have hlength : (unpack s.params.wordOrder bytes).length = (byteAt bytes 4).toNat := rfl
  by_cases hlong : 8 < (byteAt bytes 4).toNat
  · rw [decodeImage_eq_none _ _ (.inr hlong), checkedDeliver_of_lt _ _ (hlength.symm ▸ hlong)]
  · have hgood : ¬ (bytes.length ≠ 16 ∨ 8 < (byteAt bytes 4).toNat) := not_or.mpr ⟨not_not.mpr hlen, hlong⟩
    rw [decodeImage_eq_some _ _ hgood, checkedDeliver_of_le _ _ (hlength.symm ▸ Nat.not_lt.mp hlong)]

end Sys2Proof.Machine
end

section
/-! PROOFS. PduDecode on the bytes of a frame (30_encoding.md R95 to R112): each PCI type once, then the rows of group NPDU
against RX_RAW of their frame, and the builders of outbound frames. -/

namespace Sys2Proof.Machine

/-! ### PduDecode by PCI type (30_encoding.md R106) -/

theorem length_extBytes (ch : Channel) : ch.extBytes.length = ch.aoff := by
  rw [Channel.extBytes, Channel.aoff]
  cases ch.peer.ext <;> rfl

/-- A full frame of channel `ch` whose bytes after the extension byte are `code`. -/
structure Carries (ch : Channel) (f : CanFrame) (code : Bytes) : Prop where
  payload : ∃ tail, f.payload = ch.extBytes ++ (code ++ tail) ∧ (ch.aoff + code.length = 8 → tail = [])
  length : f.length = ch.aoff + code.length

/-- A frame with eight storage bytes carries what its meaningful bytes hold. -/
theorem carries_of_payload {ch : Channel} {f : CanFrame} {code tail : Bytes}
    (hpay : f.payload = ch.extBytes ++ (code ++ tail)) (hlen : f.length = ch.aoff + code.length)
    (hfull : f.payload.length = 8) : Carries ch f code := by
  refine ⟨⟨tail, hpay, fun hall => ?_⟩, hlen⟩
  rw [hpay, List.length_append, List.length_append, length_extBytes] at hfull
  exact List.length_eq_zero_iff.mp (by omega)

section Carried

variable {ch : Channel} {f : CanFrame}

/-- Storage bytes from the first PCI byte on. -/
theorem drop_aoff {code tail : Bytes} (hpay : f.payload = ch.extBytes ++ (code ++ tail)) (k : Nat) :
    f.payload.drop (ch.aoff + k) = (code ++ tail).drop k := by
  rw [hpay, ← length_extBytes, List.drop_length_add_append]

theorem byteAt_aoff {code tail : Bytes} (hpay : f.payload = ch.extBytes ++ (code ++ tail)) (k : Nat) :
    byteAt f.payload (ch.aoff + k) = byteAt (code ++ tail) k := by
  have hdrop := congrArg (fun b => b.getD 0 0) (drop_aoff hpay k)
  simpa [byteAt, List.getD_eq_getElem?_getD] using hdrop

/-- The first steps of PduDecode: a PCI byte is there, and its type is taken from it. -/
theorem pduDecode_pci {b : Byte} {rest : Bytes} (h : Carries ch f (b :: rest)) :
    ¬ f.length < ch.aoff + 1 ∧ byteAt f.payload ch.aoff = b := by
  obtain ⟨⟨tail, hpay, -⟩, hlen⟩ := h
  refine ⟨?_, byteAt_aoff hpay 0⟩
  rw [hlen, List.length_cons]
  omega

theorem pduDecode_sf {dl : BitVec 4} {rest : Bytes} (h : Carries ch f (pciByte 0 dl :: rest)) :
    pduDecode ch f =
      if ch.sfMax < dl.toNat ∨ rest.length < dl.toNat then .invalid else .sf (rest.take dl.toNat) := by
  obtain ⟨hpci, hbyte⟩ := pduDecode_pci h
  obtain ⟨⟨tail, hpay, -⟩, hlen⟩ := h
  have hdata : f.payload.drop (ch.aoff + 1) = rest ++ tail := drop_aoff hpay 1
  have hshort : f.length < ch.aoff + 1 + dl.toNat ↔ rest.length < dl.toNat := by
    rw [hlen, List.length_cons]
    omega
  have hdecode : pduDecode ch f =
      if ch.sfMax < dl.toNat then .invalid
      else if f.length < ch.aoff + 1 + dl.toNat then .invalid
      else .sf ((f.payload.drop (ch.aoff + 1)).take dl.toNat) := by
    unfold pduDecode
    rw [if_neg hpci, hbyte]
    simp only [hiNibble_pciByte, loNibble_pciByte]
    rfl
  rw [hdecode, hdata]
  by_cases hmax : ch.sfMax < dl.toNat
  · rw [if_pos hmax, if_pos (.inl hmax)]
  rw [if_neg hmax]
  by_cases hrest : rest.length < dl.toNat
  · rw [if_pos (hshort.mpr hrest), if_pos (.inr hrest)]
  · rw [if_neg (mt hshort.mp hrest), if_neg (not_or.mpr ⟨hmax, hrest⟩),
      List.take_append_of_le_length (Nat.not_lt.mp hrest)]

/-- A FirstFrame, in either form (30_encoding.md R102 to R104). -/
theorem pduDecode_ff {hi : BitVec 4} {b1 : Byte} {rest : Bytes} (h : Carries ch f (pciByte 1 hi :: b1 :: rest)) :
    pduDecode ch f =
      if ch.aoff + 2 + rest.length ≠ 8 then .invalid
      else if hi ++ b1 ≠ 0 then
        if (hi ++ b1).toNat ≤ ch.sfMax then .invalid else .ff (hi ++ b1).toNat rest
      else
        let total := (wordOf (byteAt rest 0) (byteAt rest 1) (byteAt rest 2) (byteAt rest 3)).toNat
        if total ≤ 4095 then .invalid else .ff total (rest.drop 4) := by
  obtain ⟨hpci, hbyte⟩ := pduDecode_pci h
  obtain ⟨⟨tail, hpay, hfull⟩, hlen⟩ := h
  have hsize : f.length = ch.aoff + 2 + rest.length := by
    rw [hlen, List.length_cons, List.length_cons]
    omega
  have hdecode : pduDecode ch f =
      if f.length ≠ 8 then .invalid
      else if hi ++ byteAt f.payload (ch.aoff + 1) ≠ 0 then
        if (hi ++ byteAt f.payload (ch.aoff + 1)).toNat ≤ ch.sfMax then .invalid
        else .ff (hi ++ byteAt f.payload (ch.aoff + 1)).toNat ((f.payload.take 8).drop (ch.aoff + 2))
      else
        let total := (wordOf (byteAt f.payload (ch.aoff + 2)) (byteAt f.payload (ch.aoff + 3))
          (byteAt f.payload (ch.aoff + 4)) (byteAt f.payload (ch.aoff + 5))).toNat
        if total ≤ 4095 then .invalid else .ff total ((f.payload.take 8).drop (ch.aoff + 6)) := by
    unfold pduDecode
    rw [if_neg hpci, hbyte]
    simp only [hiNibble_pciByte, loNibble_pciByte]
    rfl
  rw [hdecode, hsize]
  by_cases hall : ch.aoff + 2 + rest.length ≠ 8
  · rw [if_pos hall, if_pos hall]
  obtain rfl : tail = [] := hfull (by rw [List.length_cons, List.length_cons]; omega)
  have hat (k : Nat) : byteAt f.payload (ch.aoff + k) = byteAt (pciByte 1 hi :: b1 :: rest) k := by
    rw [byteAt_aoff hpay, List.append_nil]
  have hdrop (k : Nat) : (f.payload.take 8).drop (ch.aoff + k) = (pciByte 1 hi :: b1 :: rest).drop k := by
    have hlong : f.payload.length ≤ 8 := by
      rw [hpay, List.append_nil, List.length_append, length_extBytes, List.length_cons, List.length_cons]
      omega
    rw [List.take_of_length_le hlong, drop_aoff hpay, List.append_nil]
  rw [if_neg hall, if_neg hall, hat, hat, hat, hat, hat, hdrop, hdrop]
  rfl

theorem pduDecode_cf {sn : BitVec 4} {rest : Bytes} (h : Carries ch f (pciByte 2 sn :: rest)) :
    pduDecode ch f = if rest.length < 1 then .invalid else .cf sn rest := by
  obtain ⟨hpci, hbyte⟩ := pduDecode_pci h
  obtain ⟨⟨tail, hpay, -⟩, hlen⟩ := h
  have hsize : f.length = ch.aoff + 1 + rest.length := by
    rw [hlen, List.length_cons]
    omega
  have hdata : (f.payload.take f.length).drop (ch.aoff + 1) = rest := by
    rw [List.drop_take, drop_aoff hpay 1, hsize, Nat.add_sub_cancel_left]
    exact List.take_left
  have hdecode : pduDecode ch f =
      if f.length < ch.aoff + 2 then .invalid else .cf sn ((f.payload.take f.length).drop (ch.aoff + 1)) := by
    unfold pduDecode
    rw [if_neg hpci, hbyte]
    simp only [hiNibble_pciByte, loNibble_pciByte]
    rfl
  have hshort : f.length < ch.aoff + 2 ↔ rest.length < 1 := by omega
  rw [hdecode, hdata]
  simp only [hshort]

theorem pduDecode_fc {fs : BitVec 4} {rest : Bytes} (h : Carries ch f (pciByte 3 fs :: rest)) :
    pduDecode ch f = fcPdu fs rest := by
  obtain ⟨hpci, hbyte⟩ := pduDecode_pci h
  obtain ⟨⟨tail, hpay, -⟩, hlen⟩ := h
  have hsize : f.length = ch.aoff + 1 + rest.length := by
    rw [hlen, List.length_cons]
    omega
  have hdecode : pduDecode ch f =
      if f.length < ch.aoff + 3 then .invalid
      else .fc fs (byteAt f.payload (ch.aoff + 1)) (byteAt f.payload (ch.aoff + 2)) := by
    unfold pduDecode
    rw [if_neg hpci, hbyte]
    simp only [hiNibble_pciByte, loNibble_pciByte]
    rfl
  rw [hdecode, fcPdu, byteAt_aoff hpay, byteAt_aoff hpay]
  match rest, hsize with
  | [], hsize | [_], hsize => exact if_pos (by rw [hsize]; simp)
  | bs :: st :: rest, hsize =>
    have hlong : ¬ f.length < ch.aoff + 3 := by
      rw [hsize, List.length_cons, List.length_cons]
      omega
    rw [if_neg hlong, if_neg (by simp)]
    rfl

theorem pduDecode_unknown {b : Byte} {rest : Bytes} (h : Carries ch f (b :: rest)) (htype : 4 ≤ (hiNibble b).toNat) :
    pduDecode ch f = .unknownType (hiNibble b) := by
  obtain ⟨hpci, hbyte⟩ := pduDecode_pci h
  unfold pduDecode
  rw [if_neg hpci, hbyte]
  dsimp only
  split
  case h_5 => rfl
  all_goals omega

end Carried

/-! ### The rows of group NPDU (30_encoding.md R96) -/

/-- The row of a flow status reads as that flow status. -/
theorem rowPdu_decodeFlowControl (ch : Channel) (c : Nat) (fs : BitVec 4) (rest : Bytes) (rx : RxArgs) :
    rowPdu ch (decodeFlowControl c fs rest rx) = fcPdu fs rest ∧
      npduRow (decodeFlowControl c fs rest rx) = some (c, rx) ∧
      rowSize (decodeFlowControl c fs rest rx) = 1 + rest.length := by
  have hfs : ∀ fs : BitVec 4, fs = 0 ∨ fs = 1 ∨ fs = 2 ∨ fs = 3 ∨
      (∃ low : BitVec 2, fs = 1#2 ++ low) ∨ ∃ low : BitVec 3, fs = 1#1 ++ low := by decide
  rcases hfs fs with rfl | rfl | rfl | rfl | ⟨low, rfl⟩ | ⟨low, rfl⟩
  · exact ⟨rfl, rfl, rfl⟩
  · exact ⟨rfl, rfl, rfl⟩
  · exact ⟨rfl, rfl, rfl⟩
  · exact ⟨rfl, rfl, rfl⟩
  · rw [decodeFlowControl_reserved4to7]
    exact ⟨rfl, rfl, rfl⟩
  · rw [decodeFlowControl_reserved8toF]
    exact ⟨rfl, rfl, rfl⟩

theorem pciByte_nibbles : ∀ b : Byte, pciByte (hiNibble b) (loNibble b) = b := by decide

/-- A first byte of an unknown type, from its free bits. -/
theorem unknown_byte : ∀ b : Byte, 4 ≤ (hiNibble b).toNat →
    (b.getLsbD 7 = true → (1#1 ++ b.extractLsb' 0 7 : Byte) = b) ∧
    (b.getLsbD 7 = false → (1#2 ++ b.extractLsb' 0 6 : Byte) = b) := by decide

/-- The row of a FirstFrame, in either form. -/
theorem decodeNpdu_ff_row {ch : Channel} {c : Nat} {hi : BitVec 4} {b1 : Byte} {rest : Bytes} {rx : RxArgs} {i : Instr}
    {f : CanFrame} (hrest : rest.length ≤ 6) (hdec : decodeNpdu c (pciByte 1 hi :: b1 :: rest) rx = .ok i)
    (h : Carries ch f (pciByte 1 hi :: b1 :: rest)) :
    npduRow i = some (c, rx) ∧ rowSize i = 2 + rest.length ∧ rowPdu ch i = pduDecode ch f := by
  rw [decodeNpdu_ff c hi b1 rest rx hrest] at hdec
  rw [pduDecode_ff h]
  by_cases hzero : hi ++ b1 = 0
  · rw [if_pos hzero] at hdec
    cases hdec
    refine ⟨rfl, rfl, ?_⟩
    rw [if_neg (not_not.mpr hzero)]
    exact ite_or ..
  · rw [if_neg hzero] at hdec
    cases hdec
    refine ⟨rfl, rfl, ?_⟩
    rw [if_pos hzero]
    exact ite_or ..

/-- The decoder's row of group NPDU is what PduDecode reads from a frame that carries its bytes. -/
theorem decodeNpdu_row {ch : Channel} {c : Nat} {code : Bytes} {rx : RxArgs} {i : Instr} {f : CanFrame}
    (hdec : decodeNpdu c code rx = .ok i) (h : Carries ch f code) :
    npduRow i = some (c, rx) ∧ rowSize i = code.length ∧ rowPdu ch i = pduDecode ch f := by
  have hfits : ¬ maxData < code.length := fun hlong => by simp [decodeNpdu, hlong] at hdec
  match code, h with
  | [], _ => simp [decodeNpdu] at hdec
  | b :: rest, h =>
    have hrest : rest.length ≤ 7 := by
      simp only [List.length_cons, maxData] at hfits
      omega
    have htype : ∀ t : BitVec 4, t = 0 ∨ t = 1 ∨ t = 2 ∨ t = 3 ∨ 4 ≤ t.toNat := by decide
    obtain ⟨hi, lo, rfl⟩ : ∃ hi lo, pciByte hi lo = b := ⟨_, _, pciByte_nibbles b⟩
    rcases htype hi with rfl | rfl | rfl | rfl | ht
    case inl =>
      rw [decodeNpdu_sf c rest rx hrest] at hdec
      cases hdec
      exact ⟨rfl, Nat.add_comm .., (pduDecode_sf h).symm⟩
    case inr.inl =>
      match rest, hrest, h, hdec with
      | [], _, _, hdec => simp [decodeNpdu, maxData] at hdec
      | b1 :: rest, hrest, h, hdec =>
        obtain ⟨hrow, hsize, hpdu⟩ := decodeNpdu_ff_row (Nat.le_of_succ_le_succ hrest) hdec h
        exact ⟨hrow, hsize.trans (Nat.add_comm ..), hpdu⟩
    case inr.inr.inl =>
      rw [decodeNpdu_cf c rest rx hrest] at hdec
      cases hdec
      exact ⟨rfl, Nat.add_comm .., (pduDecode_cf h).symm⟩
    case inr.inr.inr.inl =>
      rw [decodeNpdu_fc c rest rx hrest] at hdec
      cases hdec
      obtain ⟨hpdu, hrow, hsize⟩ := rowPdu_decodeFlowControl ch c lo rest rx
      exact ⟨hrow, hsize.trans (Nat.add_comm ..), hpdu.trans (pduDecode_fc h).symm⟩
    case inr.inr.inr.inr =>
      have ht' : 4 ≤ (hiNibble (pciByte hi lo)).toNat := by rwa [hiNibble_pciByte]
      obtain ⟨hset, hclear⟩ := unknown_byte _ ht'
      rw [decodeNpdu_unknown c rest rx hrest _ ht'] at hdec
      rw [pduDecode_unknown h ht']
      split at hdec
      case isTrue hbit =>
        cases hdec
        exact ⟨rfl, Nat.add_comm .., congrArg (fun b => Npdu.unknownType (hiNibble b)) (hset hbit)⟩
      case isFalse hbit =>
        cases hdec
        exact ⟨rfl, Nat.add_comm .., congrArg (fun b => Npdu.unknownType (hiNibble b))
          (hclear (Bool.not_eq_true _ ▸ hbit))⟩

/-! ### The channel of a frame (10_state.md R30, 44_tp_receive.md R223) -/

/-- Well-formedness of a list of channels: each by itself, and each with those after it. -/
theorem channelsWf_iff (l : List Channel) :
    channelsWf l = true ↔
      (∀ ch ∈ l, ch.wf = true) ∧ l.Pairwise fun a b => a.peer ≠ b.peer ∧ a.apart b = true := by
  induction l with
  | nil => simp [channelsWf]
  | cons ch l ih =>
    simp only [channelsWf, Bool.and_eq_true, ih, Channel.goesWith, List.all_eq_true, decide_eq_true_eq,
      List.mem_cons, forall_eq_or_imp, List.pairwise_cons]
    tauto

/-- Channels that are apart accept no frame in common. -/
theorem not_accepts_of_apart {a b : Channel} {f : CanFrame} (hapart : a.apart b = true) (hb : b.accepts f = true) :
    a.accepts f = false := by
  by_contra ha
  rw [Bool.not_eq_false] at ha
  simp only [Channel.accepts, Bool.and_eq_true, decide_eq_true_eq, beq_iff_eq] at ha hb
  obtain ⟨⟨haid, haext⟩, habyte⟩ := ha
  obtain ⟨⟨hbid, hbext⟩, hbbyte⟩ := hb
  simp only [Channel.apart, ← haid, ← hbid, ← haext, ← hbext] at hapart
  cases hae : a.peer.ext with
  | none => simp [hae] at hapart
  | some x =>
    cases hbe : b.peer.ext with
    | none => simp [hbe] at hapart
    | some y =>
      simp only [hae, Bool.and_eq_true, decide_eq_true_eq] at habyte
      simp only [hbe, Bool.and_eq_true, decide_eq_true_eq] at hbbyte
      simp [hae, hbe, ← habyte.2, ← hbbyte.2] at hapart

/-- Under well-formed parameters the channel that accepts a frame is the one Lookup gives. -/
theorem lookup_of_accepts {p : Params} {c : Nat} {f : CanFrame} (hwf : p.wf = true) (hc : c < p.nCh)
    (haccepts : (p.channel c).accepts f = true) : p.lookup f = some c := by
  obtain ⟨-, hchannels⟩ := Bool.and_eq_true_iff.mp hwf
  obtain ⟨-, hpairs⟩ := (channelsWf_iff _).mp hchannels
  have hget (j : Nat) (hj : j < p.addrMap.length) : p.channel j = p.addrMap[j] := List.getD_eq_getElem _ _ hj
  rw [hget c hc] at haccepts
  refine List.findIdx?_eq_some_iff_getElem.mpr ⟨hc, haccepts, fun j hj => ?_⟩
  obtain ⟨-, hapart⟩ := List.pairwise_iff_getElem.mp hpairs j c (Nat.lt_trans hj hc) hc hj
  rw [not_accepts_of_apart hapart haccepts]
  exact Bool.false_ne_true

theorem wf_of_channel {p : Params} {c : Nat} (hwf : p.wf = true) (hc : c < p.nCh) : (p.channel c).wf = true := by
  obtain ⟨-, hchannels⟩ := Bool.and_eq_true_iff.mp hwf
  obtain ⟨hall, -⟩ := (channelsWf_iff _).mp hchannels
  rw [show p.channel c = p.addrMap[c]'hc from List.getD_eq_getElem _ _ hc]
  exact hall _ (List.getElem_mem hc)

/-- An identifier that fits its form is kept by MaskId. -/
theorem maskId_of_fits {id : BitVec 29} {extended : Bool} (h : (extended || decide (id.toNat < 2 ^ 11)) = true) :
    (maskId (id.setWidth 32) extended).setWidth 29 = id := by
  apply BitVec.eq_of_getLsbD_eq
  intro j hj
  rw [BitVec.getLsbD_setWidth, getLsbD_maskId, BitVec.getLsbD_setWidth]
  cases extended with
  | true => grind
  | false =>
    have hid : id.toNat < 2 ^ 11 := of_decide_eq_true h
    have hhigh : 11 ≤ j → id.getLsbD j = false := fun hlow =>
      Nat.testBit_lt_two_pow (Nat.lt_of_lt_of_le hid (Nat.pow_le_pow_right (by decide) hlow))
    grind

/-- The frame of given bytes on a channel carries them. -/
theorem carries_encodedFrame (ch : Channel) (id : Word) (extended : Bool) {code : Bytes}
    (hfits : ch.aoff + code.length ≤ 8) :
    Carries ch (encodedFrame id extended false (ch.extBytes ++ code)) code := by
  have hlen : (ch.extBytes ++ code).length = ch.aoff + code.length := by rw [List.length_append, length_extBytes]
  refine carries_of_payload (tail := zeros (maxData - (ch.extBytes ++ code).length)) ?_ hlen ?_
  · rw [encodedFrame, List.append_assoc]
  · exact length_encodedFrame_payload id extended false _ (hlen.symm ▸ hfits)

/-- A channel accepts the frame from its peer. -/
theorem accepts_encodedFrame {ch : Channel} (hwf : ch.wf = true) (code : Bytes) :
    ch.accepts (encodedFrame (ch.rxId.setWidth 32) ch.rxExtended false (ch.extBytes ++ code)) = true := by
  obtain ⟨hrx, -⟩ := Bool.and_eq_true_iff.mp hwf
  have hid : (encodedFrame (ch.rxId.setWidth 32) ch.rxExtended false (ch.extBytes ++ code)).id = ch.rxId :=
    maskId_of_fits hrx
  rw [Channel.accepts, hid]
  cases hext : ch.peer.ext with
  | none => simp [encodedFrame]
  | some e => simp [encodedFrame, Channel.extBytes, hext, byteAt]

/-- Settles O45: the channel's own frame is looked up, and PduDecode reads the row from it. -/
theorem npduRowIsItsFrame : Obligations.NpduRowIsItsFrame := by
  intro code a i s hwf hc hdec hfits
  have hdec : decodeNpdu a.channel code (rxArgsOf a) = .ok i := hdec
  obtain ⟨hrow, hsize, hpdu⟩ := decodeNpdu_row hdec
    (carries_encodedFrame (s.channel a.channel) ((s.channel a.channel).rxId.setWidth 32) (s.channel a.channel).rxExtended
      hfits)
  have hlookup (e : State) (he : e.params = s.params) : e.params.lookup (encodedFrame
      ((s.channel a.channel).rxId.setWidth 32) (s.channel a.channel).rxExtended false
      ((s.channel a.channel).extBytes ++ code)) = some a.channel := by
    rw [he]
    exact lookup_of_accepts hwf hc (accepts_encodedFrame (wf_of_channel hwf hc) code)
  have hlen : ((s.channel a.channel).extBytes ++ code).length ≤ maxData := by
    rwa [List.length_append, length_extBytes]
  refine (exec_npduRow s hrow).trans (Eq.trans ?_ (exec_rxRaw _ (rxArgsOf a) s).symm)
  rw [inboundPdu]
  refine inbound_congr ?_
  simp only [served_params, served_channel]
  rw [hsize, if_neg (Nat.not_lt.mpr (show _ ≤ maxData from hfits)), if_pos hc, decodeImage_encodeImage _ _ _ _ _ hlen]
  dsimp only
  rw [deliver_of_no_error _ _ rfl, tpRx_of_channel _ _ rfl (hlookup _ (served_params ..)), served_channel, hpdu]

/-! ### The builders of outbound frames (30_encoding.md R111, R112) -/

/-- The bytes of padding after `n` bytes of a frame. -/
def padding (cfg : Cfg) (n : Nat) : Bytes := if cfg.padEn then fill (8 - n) cfg.padByte else []

theorem pad_eq_append (cfg : Cfg) (b : Bytes) : pad cfg b = b ++ padding cfg b.length := by
  rw [pad, padding]
  cases cfg.padEn <;> simp

theorem length_pad_le (cfg : Cfg) {b : Bytes} (h : b.length ≤ 8) : b.length + (padding cfg b.length).length ≤ 8 := by
  rw [padding]
  cases cfg.padEn <;> simp [fill] <;> omega

theorem padding_full (cfg : Cfg) {n : Nat} (h : 8 ≤ n) : padding cfg n = [] := by
  rw [padding, Nat.sub_eq_zero_of_le h]
  cases cfg.padEn <;> rfl

/-- The image of an outbound frame decodes to a data frame with the channel's outbound identifier that carries the frame's
bytes and its padding. -/
theorem decodeImage_tpFrame {p : Params} (cfg : Cfg) {c : Nat} (hwf : (p.channel c).wf = true) {body : Bytes}
    (hfits : (p.channel c).aoff + body.length ≤ 8) :
    ∃ f, decodeImage p.wordOrder (tpFrame p cfg c ((p.channel c).extBytes ++ body)) = some f ∧
      f.id = (p.channel c).txId ∧ f.extended = (p.channel c).txExtended ∧ f.remoteRequest = false ∧ f.error = false ∧
      Carries (p.channel c) f (body ++ padding cfg ((p.channel c).aoff + body.length)) := by
  obtain ⟨-, htx⟩ := Bool.and_eq_true_iff.mp hwf
  have hsize : ((p.channel c).extBytes ++ body).length = (p.channel c).aoff + body.length := by
    rw [List.length_append, length_extBytes]
  have hpadded := length_pad_le cfg (hsize.trans_le hfits)
  have hcode : (p.channel c).aoff + (body ++ padding cfg ((p.channel c).aoff + body.length)).length ≤ 8 := by
    rwa [List.length_append, ← Nat.add_assoc, ← hsize]
  refine ⟨_, ?_, maskId_of_fits htx, rfl, rfl, rfl, carries_encodedFrame _ _ _ hcode⟩
  rw [tpFrame, pad_eq_append, hsize, List.append_assoc]
  refine decodeImage_encodeImage _ _ _ _ _ ?_
  rwa [List.length_append, length_extBytes]

/-- A SingleFrame's PCI byte holds the length. -/
theorem ofNat_eq_pciByte {n : Nat} (h : n ≤ 7) : (BitVec.ofNat 8 n : Byte) = pciByte 0 (BitVec.ofNat 4 n) := by
  interval_cases n <;> rfl

/-- The 12-bit length of a FirstFrame from its two bytes. -/
theorem toNat_ffLength {total : Nat} (h : total ≤ 4095) :
    ((BitVec.ofNat 4 (total / 256) ++ BitVec.ofNat 8 total : BitVec 12)).toNat = total := by
  rw [toNat_append_eq, BitVec.toNat_ofNat, BitVec.toNat_ofNat]
  omega

/-- A FirstFrame with a 12-bit length reads back (30_encoding.md R102). -/
theorem pduDecode_ff_short {ch : Channel} {f : CanFrame} {total : Nat} {data : Bytes}
    (h : Carries ch f (pciByte 1 (BitVec.ofNat 4 (total / 256)) :: BitVec.ofNat 8 total :: data)) (hshort : total ≤ 4095)
    (hlow : ch.sfMax < total) (hsize : ch.aoff + 2 + data.length = 8) : pduDecode ch f = .ff total data := by
  have hlength := toNat_ffLength hshort
  have hne : (BitVec.ofNat 4 (total / 256) ++ BitVec.ofNat 8 total : BitVec 12) ≠ 0 := by
    intro hzero
    rw [hzero] at hlength
    exact absurd (hlength ▸ hlow) (Nat.not_lt_zero _)
  rw [pduDecode_ff h, if_neg (not_not.mpr hsize), if_pos hne, hlength, if_neg (Nat.not_le.mpr hlow)]

/-- A FirstFrame with a 32-bit length reads back (30_encoding.md R104). -/
theorem pduDecode_ff_long {ch : Channel} {f : CanFrame} {total : Nat} {data : Bytes}
    (h : Carries ch f (pciByte 1 0 :: 0 :: (be32 (BitVec.ofNat 32 total) ++ data))) (hlong : 4095 < total)
    (hhigh : total ≤ 4294967295) (hsize : ch.aoff + 6 + data.length = 8) : pduDecode ch f = .ff total data := by
  let rest := be32 (BitVec.ofNat 32 total) ++ data
  have hword : (wordOf (byteAt rest 0) (byteAt rest 1) (byteAt rest 2) (byteAt rest 3)).toNat = total := by
    refine (congrArg BitVec.toNat (wordOf_extract _)).trans ?_
    rw [BitVec.toNat_ofNat]
    omega
  have hfull : ch.aoff + 2 + (be32 (BitVec.ofNat 32 total) ++ data).length = 8 := by
    rw [List.length_append, show (be32 (BitVec.ofNat 32 total)).length = 4 from rfl]
    omega
  rw [pduDecode_ff h, if_neg (not_not.mpr hfull), if_neg (by decide)]
  dsimp only
  rw [hword, if_neg (Nat.not_le.mpr hlong)]
  rfl

/-- Settles O53: each builder's bytes, with their padding, under PduDecode. -/
theorem transportRoundTrip : Obligations.TransportRoundTrip := by
  intro p cfg c hwf ch reads
  have haoff : ch.aoff ≤ 1 := aoff_le_one ch
  have hreads {body : Bytes} {n : Npdu} (hfits : ch.aoff + body.length ≤ 8)
      (hpdu : ∀ f, Carries ch f (body ++ padding cfg (ch.aoff + body.length)) → pduDecode ch f = n) :
      reads (ch.extBytes ++ body) n := by
    obtain ⟨f, hdec, hid, hext, hremote, herr, hcarries⟩ := decodeImage_tpFrame cfg hwf hfits
    exact ⟨f, hdec, hid, hext, hremote, herr, hpdu f hcarries⟩
  refine ⟨fun data hdata => ?sf, fun total data hlow hhigh hdata => ?ff, fun sn data hpos hdata => ?cf,
    fun fs bs st => ?fc⟩
  case sf =>
    rw [Channel.sfMax] at hdata
    rw [mkSF, List.append_assoc, ofNat_eq_pciByte (by omega)]
    refine hreads (by simp; omega) fun f hf => ?_
    have hlen : (BitVec.ofNat 4 data.length).toNat = data.length := by
      rw [BitVec.toNat_ofNat]
      omega
    rw [List.append_assoc] at hf
    refine (pduDecode_sf hf).trans ?_
    have hnot : ¬ (ch.sfMax < data.length ∨ (data ++ padding cfg (ch.aoff +
        ([pciByte 0 (BitVec.ofNat 4 data.length)] ++ data).length)).length < data.length) := by
      rw [Channel.sfMax, List.length_append]
      omega
    rw [hlen]
    exact (if_neg hnot).trans (congrArg Npdu.sf List.take_left)
  case ff =>
    rw [Channel.ffData] at hdata
    by_cases hshort : total ≤ 4095
    · rw [if_pos hshort] at hdata
      have hsize : ch.aoff + 2 + data.length = 8 := by omega
      rw [mkFF, if_pos hshort, List.append_assoc]
      refine hreads (by simp; omega) fun f hf => ?_
      rw [padding_full cfg (by simp; omega), List.append_nil] at hf
      exact pduDecode_ff_short hf hshort hlow hsize
    · rw [if_neg hshort] at hdata
      have hsize : ch.aoff + 6 + data.length = 8 := by omega
      rw [mkFF, if_neg hshort, List.append_assoc, List.append_assoc]
      refine hreads (by simp [be32]; omega) fun f hf => ?_
      rw [padding_full cfg (by simp [be32]; omega), List.append_nil] at hf
      exact pduDecode_ff_long hf (Nat.not_le.mp hshort) hhigh hsize
  case cf =>
    rw [Channel.cfData] at hdata
    rw [mkCF, List.append_assoc]
    refine hreads (by simp; omega) fun f hf => ?_
    rw [List.append_assoc, List.singleton_append] at hf
    rw [pduDecode_cf hf, if_neg (by rw [List.length_append]; omega), padding]
    cases cfg.padEn with
    | false => simp
    | true =>
      simp only [fill, Channel.cfData, if_true, List.length_append, List.length_singleton]
      rw [show 8 - (ch.aoff + (1 + data.length)) = 7 - ch.aoff - data.length by omega]
  case fc =>
    refine hreads (by simp; omega) fun f hf => ?_
    refine (pduDecode_fc hf).trans ?_
    rw [fcPdu, if_neg (by simp)]
    rfl

end Sys2Proof.Machine
end

section
/-! PROOFS. Whole messages: a reception fed with ConsecutiveFrames (44_tp_receive.md R250), and a sending session taken from
turn to turn (45_tp_send.md R281), each by induction over what the environment does. -/

namespace Sys2Proof.Machine

/-! ### One ConsecutiveFrame of a reception, in sequence and on time -/

theorem not_expired_of_lt {sl : Slot} {now : Nat} (h : now < sl.deadline) : sl.expired now = false := by
  by_contra hexp
  rw [Bool.not_eq_false] at hexp
  obtain ⟨-, hdeadline⟩ := (expired_iff _ _).mp hexp
  omega

theorem slot_andThenSlot {s : State} {c : Nat} (hc : c < s.slots.length) (sl : Slot) (actions : List Action) :
    (s.andThenSlot c sl actions).slot c = sl := slot_of_slots_set hc rfl

section Reception

variable {c : Nat} {s : State} (hinv : s.Inv) (hc : c < s.params.nCh) (hvalid : (s.slot c).valid = true)
  (hstate : (s.slot c).state = .accumulatingFF) {data : Bytes} {rx : RxArgs}
  (hnow : rx.now.toNat < (s.slot c).deadline) (hlen : data.length ≤ 7 - (s.channel c).aoff)

include hinv hc hvalid hstate hnow hlen

/-- The frame is stored, and completes the message or does not (44_tp_receive.md R242 to R244). -/
theorem exec_cf_inSequence (hone : 1 ≤ data.length) (hchunk : s.chunk c (s.slot c) ≤ data.length) :
    exec (.npduCf c (s.slot c).expectedSequenceNumber data rx) s = .next
      (if (s.slot c).bytesTransferred + s.chunk c (s.slot c) = (s.slot c).totalLength then
        (s.served rx.now rx.txo).andThenSlot c ((s.slot c).filled (data.take (s.chunk c (s.slot c))))
          [.onMessage ((s.slot c).buf ++ data.take (s.chunk c (s.slot c))) (s.peer c) .ok]
      else
        (s.served rx.now rx.txo).andThenSlot c
          ((s.slot c).stored (data.take (s.chunk c (s.slot c))) (rx.now.toNat + s.cfg.nCr.toNat)) []) := by
  have hdata : data ≠ [] := List.length_pos_iff.mp hone
  have haoff := aoff_le_one (s.channel c)
  have hslot : (s.served rx.now rx.txo).slot c = s.slot c := slot_served_of_not_expired (not_expired_of_lt hnow)
  have hchunk' : (s.served rx.now rx.txo).chunk c (s.slot c) = s.chunk c (s.slot c) := chunk_congr (served_params ..) c _
  have hreceives : ¬ ((s.slot c).valid = false ∨ (s.slot c).state ≠ .accumulatingFF) := by simp [hvalid, hstate]
  have hmoved : (data.take (s.chunk c (s.slot c))).length = s.chunk c (s.slot c) := by
    rw [List.length_take, Nat.min_eq_left hchunk]
  have hhandled := consecutiveFrameHandled c (s.slot c).expectedSequenceNumber data rx s hinv (mode_of_valid hinv hvalid) hc
    hdata (by omega)
  rw [hslot, hchunk', if_neg hreceives, if_neg (not_not.mpr rfl), if_neg (Nat.not_lt.mpr hchunk)] at hhandled
  rw [hhandled, Slot.stored, hmoved]
  rfl

/-- A full frame before the last one. -/
theorem exec_cf_full (hfull : data.length = 7 - (s.channel c).aoff)
    (hmore : (s.slot c).buf.length + data.length < (s.slot c).totalLength) :
    ∃ t, exec (.npduCf c (s.slot c).expectedSequenceNumber data rx) s = .next t ∧ t.params = s.params ∧ t.cfg = s.cfg ∧
      t.slot c = (s.slot c).stored data (rx.now.toNat + s.cfg.nCr.toNat) := by
  obtain ⟨-, hbuf, -⟩ := receiving_of_accumulating (ok_of_inv hinv c) hvalid hstate
  have haoff := aoff_le_one (s.channel c)
  have hchunk : s.chunk c (s.slot c) = data.length := by
    rw [State.chunk]
    omega
  have hexec := exec_cf_inSequence hinv hc hvalid hstate hnow hlen (by omega) hchunk.le
  rw [hchunk, if_neg (by omega), List.take_length] at hexec
  refine ⟨_, hexec, served_params .., served_cfg .., slot_andThenSlot ?_ _ _⟩
  rw [served_length]
  exact lt_length_of_valid hvalid

/-- The last frame, long enough. -/
theorem exec_cf_last (hone : 1 ≤ data.length)
    (hlast : (s.slot c).totalLength ≤ (s.slot c).buf.length + data.length) :
    ∃ t, exec (.npduCf c (s.slot c).expectedSequenceNumber data rx) s = .next t ∧ (t.slot c).valid = false ∧
      t.actions.getLast? =
        some (.onMessage (((s.slot c).buf ++ data).take (s.slot c).totalLength) (s.peer c) .ok) := by
  obtain ⟨-, hbuf, hlt⟩ := receiving_of_accumulating (ok_of_inv hinv c) hvalid hstate
  have hchunk : s.chunk c (s.slot c) = (s.slot c).totalLength - (s.slot c).buf.length := by
    rw [State.chunk]
    omega
  have hexec := exec_cf_inSequence hinv hc hvalid hstate hnow hlen hone (by omega)
  have hmessage : ((s.slot c).buf ++ data).take (s.slot c).totalLength =
      (s.slot c).buf ++ data.take ((s.slot c).totalLength - (s.slot c).buf.length) := by
    rw [List.take_append, List.take_of_length_le (by omega)]
  rw [hchunk, if_pos (by omega), ← hmessage] at hexec
  refine ⟨_, hexec, ?_, ?_⟩
  · rw [slot_andThenSlot]
    · rfl
    · rw [served_length]
      exact lt_length_of_valid hvalid
  · rw [andThenSlot_actions, List.getLast?_concat]

end Reception

/-- Settles O52, by induction on the frames before the last: each leaves a reception with its bytes stored. -/
theorem reassembly : Obligations.Reassembly := by
  intro c init last
  induction init with
  | nil =>
    intro s
    dsimp only
    intro hinv hc hvalid hstate _ hone hlen hmore hlast htime
    obtain ⟨hnow, -⟩ := Bool.and_eq_true_iff.mp htime
    simp only [List.length_nil, Nat.zero_mul, Nat.add_zero] at hlast
    obtain ⟨t, hexec, hfree, hactions⟩ := exec_cf_last hinv hc hvalid hstate (of_decide_eq_true hnow) hlen hone hlast
    refine ⟨t, ?_, hfree, ?_⟩
    · simp only [List.nil_append, feed]
      rw [hexec]
      rfl
    · simpa using hactions
  | cons f fs ih =>
    intro s
    dsimp only at ih ⊢
    intro hinv hc hvalid hstate hfull hone hlen hmore hlast htime
    obtain ⟨hnow, htime⟩ := Bool.and_eq_true_iff.mp htime
    obtain ⟨hf, hfs⟩ := List.forall_mem_cons.mp hfull
    have hcount : (f :: fs).length * (7 - (s.channel c).aoff) = f.1.length + fs.length * (7 - (s.channel c).aoff) := by
      rw [List.length_cons, Nat.add_mul, Nat.one_mul, hf, Nat.add_comm]
    rw [hcount] at hmore hlast
    obtain ⟨t, hexec, hparams, hcfg, hslot⟩ :=
      exec_cf_full hinv hc hvalid hstate (of_decide_eq_true hnow) hf.le hf (by omega)
    have hchannel : t.channel c = s.channel c := by rw [State.channel, hparams, State.channel]
    have hbuf : ((s.slot c).stored f.1 (f.2.now.toNat + s.cfg.nCr.toNat)).buf.length =
        (s.slot c).buf.length + f.1.length := List.length_append
    have hfed := ih t
    rw [hslot, hchannel, hparams, hcfg, hbuf, peer_congr hparams] at hfed
    obtain ⟨u, hfeed, hfree, hactions⟩ := hfed (inv_exec hinv hexec) hc hvalid hstate hfs hone hlen
      (by rw [Nat.add_assoc]; exact hmore) (by rw [Nat.add_assoc _ f.1.length]; exact hlast) htime
    refine ⟨u, ?_, hfree, ?_⟩
    · simp only [List.cons_append, feed]
      rw [hexec]
      exact hfeed
    · rw [hactions, List.map_cons, List.flatten_cons, ← List.append_assoc]
      rfl

/-! ### One turn of a sending session -/

/-- The slot from which the frame of a turn goes out: a ContinueToSend stores its values first. -/
def Turn.sends (t : Turn) (sl : Slot) : Slot :=
  match sl.state with
  | .awaitingFlowControl => sl.continued t.bs t.st
  | .sendingConsecutive | .accumulatingFF => sl

/-- What a turn leaves when its frame goes out and no other slot has expired. -/
def State.turned (s : State) (c : Nat) (t : Turn) : State :=
  { s.ended (s.cfActions c (s.slot c)) .noValue with
    slots := s.slots.set c (s.cfSent c (t.sends (s.slot c)) t.rx.now.toNat) }

/-- A frame that went out moves its bytes and counts its number, in each of the four branches of R276. -/
theorem cfSent_session (s : State) (c : Nat) (sl : Slot) (now : Nat) :
    (s.cfSent c sl now).direction = sl.direction ∧ (s.cfSent c sl now).totalLength = sl.totalLength ∧
      (s.cfSent c sl now).buf = sl.buf ∧
      (s.cfSent c sl now).bytesTransferred = sl.bytesTransferred + s.chunk c sl ∧
      (s.cfSent c sl now).expectedSequenceNumber = sl.expectedSequenceNumber + 1 ∧
      ((s.cfSent c sl now).valid = true ↔ sl.valid = true ∧ sl.bytesTransferred + s.chunk c sl ≠ sl.totalLength) := by
  unfold State.cfSent
  dsimp only
  split_ifs with hlast <;> simp [hlast]

/-- The values of a ContinueToSend are no part of what the session has moved. -/
theorem turnSends_session (s : State) (c : Nat) (t : Turn) (sl : Slot) :
    (t.sends sl).direction = sl.direction ∧ (t.sends sl).totalLength = sl.totalLength ∧ (t.sends sl).buf = sl.buf ∧
      (t.sends sl).bytesTransferred = sl.bytesTransferred ∧ s.chunk c (t.sends sl) = s.chunk c sl ∧
      (t.sends sl).expectedSequenceNumber = sl.expectedSequenceNumber ∧ (t.sends sl).valid = sl.valid := by
  unfold Turn.sends
  cases sl.state <;> exact ⟨rfl, rfl, rfl, rfl, rfl, rfl, rfl⟩

section SendingTurn

variable {c : Nat} {s : State} {t : Turn} (hinv : s.Inv) (hc : c < s.params.nCh) (hvalid : (s.slot c).valid = true)
  (hdir : (s.slot c).direction = .sending) (hdone : t.rx.txo.headD .done = .done)
  (hothers : ∀ d, d ≠ c → (s.slot d).expired t.rx.now.toNat = false) (htimely : t.timely (s.slot c) = true)

include hinv hc hvalid hdir hdone hothers htimely

/-- A turn's frame goes out: after its ContinueToSend, or in the expiry pass. -/
theorem exec_turn : exec (t.instr c (s.slot c)) s = .next (s.turned c t) := by
  have hok := ok_of_inv hinv c
  obtain ⟨hmode, ⟨hside, -, -, -, hst, -⟩, -⟩ := (ok_iff _ _ _).mp hok hvalid
  unfold State.turned
  cases hstate : (s.slot c).state with
  | accumulatingFF => exact absurd hstate (hside.mp hdir)
  | awaitingFlowControl =>
    have hearly : (s.slot c).expired t.rx.now.toNat = false := by
      simp only [Turn.timely, hstate, decide_eq_true_eq] at htimely
      exact not_expired_of_lt htimely
    have hserved : s.served t.rx.now t.rx.txo = startOp t.rx.txo s := by
      refine served_of_none _ fun d _ => ?_
      by_cases hdc : d = c
      · exact hdc ▸ hearly
      · exact hothers d hdc
    have haoff := aoff_le_one (s.channel c)
    have hfits : (s.channel c).aoff + 3 + ([] : Bytes).length ≤ 8 := by simp only [List.length_nil]; omega
    have hexec := continueToSend c t.bs t.st [] t.rx s hinv hmode hc hfits
    simp only [Turn.instr, Turn.sends, hstate]
    rw [hserved] at hexec
    exact hexec hvalid hstate hdone
  | sendingConsecutive =>
    have hlate : (s.slot c).expired t.rx.now.toNat = true := by
      simp only [Turn.timely, hstate, decide_eq_true_eq] at htimely
      exact (expired_iff _ _).mpr ⟨hvalid, htimely⟩
    have htimer := hst.mpr hstate
    have hsends := sendNextCF_of_done (s := startOp t.rx.txo s) (now := t.rx.now.toNat) hdir (lt_length_of_valid hvalid)
      (inBlock_of_timer_st hok hvalid htimer).remaining hdone
    simp only [Turn.instr, Turn.sends, hstate]
    rw [exec_tick, served_of_st _ hc hlate htimer hothers, hsends]
    simp only [State.andThen, State.ended, startOp_actions, List.nil_append, List.append_nil]
    rfl

end SendingTurn

/-! ### The frames of a session (45_tp_send.md R281) -/

/-- The ConsecutiveFrame that goes out `i` frames from now. -/
def State.segment (s : State) (c i : Nat) : Action :=
  .txFrame (s.frameTo c ((s.channel c).extBytes ++
    [0x20 ||| ((s.slot c).expectedSequenceNumber + BitVec.ofNat 4 i).setWidth 8] ++
    ((s.slot c).buf.drop ((s.slot c).bytesTransferred + i * (7 - (s.channel c).aoff))).take (7 - (s.channel c).aoff)))

/-- The next frame holds what is left, or a full chunk of it. -/
theorem cfTo_eq_segment {s : State} {c : Nat} (hbuf : (s.slot c).buf.length = (s.slot c).totalLength) :
    .txFrame (s.cfTo c (s.slot c)) = s.segment c 0 := by
  have hchunk : ((s.slot c).buf.drop (s.slot c).bytesTransferred).take (s.chunk c (s.slot c)) =
      ((s.slot c).buf.drop (s.slot c).bytesTransferred).take (7 - (s.channel c).aoff) := by
    rw [State.chunk, ← hbuf, ← List.length_drop, ← List.take_eq_take_min]
  rw [State.cfTo, State.segment, hchunk, Nat.zero_mul, Nat.add_zero, BitVec.ofNat_eq_ofNat, BitVec.add_zero]

section Turned

variable {c : Nat} {s : State} (t : Turn) (hvalid : (s.slot c).valid = true)

include hvalid

theorem slot_turned : (s.turned c t).slot c = s.cfSent c (t.sends (s.slot c)) t.rx.now.toNat :=
  slot_of_slots_set (lt_length_of_valid hvalid) rfl

/-- The session after a turn: its bytes moved, its number counted, and freed when the message is complete. -/
theorem turned_session :
    ((s.turned c t).slot c).direction = (s.slot c).direction ∧
      ((s.turned c t).slot c).totalLength = (s.slot c).totalLength ∧ ((s.turned c t).slot c).buf = (s.slot c).buf ∧
      ((s.turned c t).slot c).bytesTransferred = (s.slot c).bytesTransferred + s.chunk c (s.slot c) ∧
      ((s.turned c t).slot c).expectedSequenceNumber = (s.slot c).expectedSequenceNumber + 1 ∧
      (((s.turned c t).slot c).valid = true ↔
        (s.slot c).bytesTransferred + s.chunk c (s.slot c) ≠ (s.slot c).totalLength) := by
  obtain ⟨hdir, htotal, hbuf, hmoved, hsn, hleft⟩ := cfSent_session s c (t.sends (s.slot c)) t.rx.now.toNat
  obtain ⟨hdir', htotal', hbuf', hmoved', hchunk, hsn', hvalid'⟩ := turnSends_session s c t (s.slot c)
  rw [slot_turned t hvalid, hdir, htotal, hbuf, hmoved, hsn, hleft, hdir', htotal', hbuf', hmoved', hchunk, hsn', hvalid',
    hvalid]
  exact ⟨rfl, rfl, rfl, rfl, rfl, and_iff_right rfl⟩

/-- After a full frame the frames that go out are the ones after it. -/
theorem segment_turned (hfull : s.chunk c (s.slot c) = 7 - (s.channel c).aoff) (i : Nat) :
    (s.turned c t).segment c i = s.segment c (i + 1) := by
  obtain ⟨-, -, hbuf, hmoved, hsn, -⟩ := turned_session t hvalid
  have hframe := frameTo_congr (s := s) (t := s.turned c t) rfl rfl c
  have hchannel : (s.turned c t).channel c = s.channel c := rfl
  have hnumber (x : BitVec 4) : x + 1 + BitVec.ofNat 4 i = x + BitVec.ofNat 4 (i + 1) := by
    rw [BitVec.ofNat_add, BitVec.add_assoc, BitVec.add_comm 1]
    rfl
  have hoffset (m n : Nat) : m + n + i * n = m + (i + 1) * n := by ring
  rw [State.segment, State.segment, hframe, hchannel, hbuf, hmoved, hsn, hfull, hnumber, hoffset]

end Turned

theorem slot_turned_other {c d : Nat} (s : State) (t : Turn) (hdc : d ≠ c) : (s.turned c t).slot d = s.slot d :=
  slot_setSlot_other c _ _ _ hdc

/-- What a turn emits: the last frame of a message is followed by its completion. -/
theorem cfActions_eq {s : State} {c : Nat} (hbuf : (s.slot c).buf.length = (s.slot c).totalLength) :
    s.cfActions c (s.slot c) = s.segment c 0 ::
      if (s.slot c).bytesTransferred + s.chunk c (s.slot c) = (s.slot c).totalLength then [.sendDone (s.peer c) .ok]
      else [] := by
  rw [State.cfActions, cfTo_eq_segment hbuf]

theorem takeTurns_cons {c : Nat} {t : Turn} {rest : List Turn} {s u : State}
    (hexec : exec (t.instr c (s.slot c)) s = .next u) :
    takeTurns c (t :: rest) s = (takeTurns c rest u).map fun r => (u.actions ++ r.1, r.2) := by
  rw [takeTurns, hexec]
  rfl

theorem turnsTimely_cons {c : Nat} {t : Turn} {rest : List Turn} {s u : State}
    (hexec : exec (t.instr c (s.slot c)) s = .next u) :
    turnsTimely c (t :: rest) s = (t.timely (s.slot c) && turnsTimely c rest u) := by
  rw [turnsTimely, hexec]
  rfl

theorem timely_of_turnsTimely {c : Nat} {t : Turn} {rest : List Turn} {s : State}
    (h : turnsTimely c (t :: rest) s = true) : t.timely (s.slot c) = true := by
  rw [turnsTimely] at h
  exact Bool.and_elim_left h

/-- As many turns as frames are left emit those frames and the completion. -/
theorem takeTurns_segments (c : Nat) (turns : List Turn) (s : State) (hinv : s.Inv) (hc : c < s.params.nCh)
    (hvalid : (s.slot c).valid = true) (hdir : (s.slot c).direction = .sending)
    (hdone : ∀ t ∈ turns, t.rx.txo.headD .done = .done)
    (hothers : ∀ t ∈ turns, ∀ d, d ≠ c → (s.slot d).expired t.rx.now.toNat = false)
    (hleft : (s.slot c).totalLength ≤ (s.slot c).bytesTransferred + turns.length * (7 - (s.channel c).aoff))
    (hright : (s.slot c).bytesTransferred + turns.length * (7 - (s.channel c).aoff) <
      (s.slot c).totalLength + (7 - (s.channel c).aoff))
    (htimely : turnsTimely c turns s = true) :
    ∃ u, takeTurns c turns s = some ((List.range turns.length).map (s.segment c) ++ [.sendDone (s.peer c) .ok], u) ∧
      (u.slot c).valid = false := by
  induction turns generalizing s with
  | nil =>
    obtain ⟨-, ⟨-, hlt, -⟩, -⟩ := (ok_iff _ _ _).mp (ok_of_inv hinv c) hvalid
    simp only [List.length_nil, Nat.zero_mul, Nat.add_zero] at hleft
    exact absurd hlt (Nat.not_lt.mpr hleft)
  | cons t rest ih =>
    obtain ⟨hdoneT, hdoneRest⟩ := List.forall_mem_cons.mp hdone
    obtain ⟨hothersT, hothersRest⟩ := List.forall_mem_cons.mp hothers
    obtain ⟨-, ⟨-, hlt, -, -, -, -, hbuf, -⟩, -⟩ := (ok_iff _ _ _).mp (ok_of_inv hinv c) hvalid
    have hexec := exec_turn hinv hc hvalid hdir hdoneT hothersT (timely_of_turnsTimely htimely)
    rw [turnsTimely_cons hexec, Bool.and_eq_true] at htimely
    obtain ⟨-, htimely⟩ := htimely
    obtain ⟨hdir', htotal', -, hmoved', -, hvalid'⟩ := turned_session t hvalid
    have hactions : (s.turned c t).actions = s.cfActions c (s.slot c) := rfl
    rw [takeTurns_cons hexec, hactions, cfActions_eq (hbuf hdir)]
    cases rest with
    | nil =>
      have hlast : (s.slot c).bytesTransferred + s.chunk c (s.slot c) = (s.slot c).totalLength := by
        simp only [List.length_singleton, Nat.one_mul] at hleft
        rw [State.chunk]
        omega
      refine ⟨s.turned c t, ?_, Bool.eq_false_iff.mpr fun h => hvalid'.mp h hlast⟩
      rw [if_pos hlast]
      rfl
    | cons t' rest =>
      have hcount : (t :: t' :: rest).length * (7 - (s.channel c).aoff) =
          (7 - (s.channel c).aoff) + (t' :: rest).length * (7 - (s.channel c).aoff) := by
        rw [List.length_cons, Nat.add_mul, Nat.one_mul, Nat.add_comm]
      have hnext : 7 - (s.channel c).aoff ≤ (t' :: rest).length * (7 - (s.channel c).aoff) :=
        Nat.le_mul_of_pos_left _ (Nat.succ_pos _)
      rw [hcount] at hleft hright
      have hfull : s.chunk c (s.slot c) = 7 - (s.channel c).aoff := by
        rw [State.chunk]
        omega
      have hmore : (s.slot c).bytesTransferred + s.chunk c (s.slot c) ≠ (s.slot c).totalLength := by omega
      have hchannel : (s.turned c t).channel c = s.channel c := rfl
      obtain ⟨u, htake, hfree⟩ := ih (s.turned c t) (inv_exec hinv hexec) hc (hvalid'.mpr hmore) (hdir'.trans hdir)
        hdoneRest (fun r hr d hdc => (slot_turned_other s t hdc).symm ▸ hothersRest r hr d hdc)
        (by rw [htotal', hmoved', hchannel]; omega) (by rw [htotal', hmoved', hchannel]; omega) htimely
      refine ⟨u, ?_, hfree⟩
      rw [htake, if_neg hmore, List.length_cons (a := t), List.range_succ_eq_map, List.map_cons, List.map_map,
        funext (segment_turned t hvalid hfull)]
      rfl

/-- Settles O60, by induction on the turns: each emits the next frame and leaves a session for the others, the last one
the completed message. -/
theorem segmentation : Obligations.Segmentation := takeTurns_segments

end Sys2Proof.Machine
end
